-- ==== Sys2Proof/Word.lean ====
section
/-! DEFINITION. The byte, the only word of the block, and byte sequences (00_scope.md R7). -/

namespace Sys2Proof

/-- R7: an unsigned 8-bit value. No rule of the spec reads a byte as a signed number. -/
abbrev Byte := BitVec 8

/-- R7: a finite sequence of bytes, possibly empty, the first byte on the wire first. -/
abbrev Bytes := List Byte

end Sys2Proof
end

