-- ==== Sys2Proof/Config.lean ====
section
/-! DEFINITION. What is fixed for one block: the parameters of 00_scope.md R6, the names of the
transport's timeouts, and the values the spec leaves to the environment (free values without a body). -/

namespace Sys2Proof

/-! ## Constants of R6 -/

/-- R6: `STX`, the first byte of every frame. -/
abbrev stx : Byte := 0x02
/-- R6: `ETX`, the last byte of every frame. -/
abbrev etx : Byte := 0x03
/-- R6: `PCB_CMD`, the protocol control byte of every command the block builds. -/
abbrev pcbCmd : Byte := 0x00
/-- R6: `INS_CMD`, the instruction byte of every command the block builds. -/
abbrev insCmd : Byte := 0x3E
/-- R6: `MIN_FRAME`, the shortest buffer DECODE accepts. -/
abbrev minFrame : Nat := 8
/-- R6: `MAX_DATA`, the most DATA bytes ENCODE takes. -/
abbrev maxData : Nat := 253
/-- R6: `KEYNUM_MAX`. -/
abbrev keyNumMax : Nat := 1
/-- R6: `SECTOR_MAX`. -/
abbrev sectorMax : Nat := 39
/-- R6: `BLOCK_LEN`, the bytes of one card block. -/
abbrev blockLen : Nat := 16

/-! ## Answers of the transport port (10_state.md R32) -/

/-- R32: what a `Write` returns; `writeError` covers a failed write and one not completed within `T_WRITE`. -/
inductive WriteAnswer where
  | ok
  | writeError
  deriving DecidableEq, Repr, Inhabited

/-- R32: what a `WaitForBytes` returns. -/
inductive WaitAnswer where
  | ok
  | timedOut
  deriving DecidableEq, Repr, Inhabited

/-! ## Timeouts -/

/-- R25: the four initial-wait timeouts that `TINIT` can hold. -/
inductive InitWait where
  /-- `T_INIT_POLL` -/
  | poll
  /-- `T_INIT_READ` -/
  | readBlock
  /-- `T_INIT_LOADKEY` -/
  | loadKey
  /-- `T_INIT_AUTH` -/
  | authenticate
  deriving DecidableEq, Repr

/-- R221: the timeouts a `WaitForBytes` is given. -/
inductive Timeout where
  | init (t : InitWait)
  /-- `T_TRAIL` -/
  | trail
  deriving DecidableEq, Repr

/-- R6, U2, U7: the parameters of one block that the spec leaves OPEN or gives only as a range.
They are arguments of the model: State carries them and no step writes them. -/
structure Config where
  /-- `RX_CAPACITY`; `none` is unbounded, the spec's default (D25). -/
  rxCapacity   : Option Nat
  /-- `T_WRITE` in ms. -/
  tWrite       : Nat
  /-- `T_INIT_POLL` in ms. -/
  tInitPoll    : Nat
  /-- `T_INIT_READ` in ms. -/
  tInitRead    : Nat
  /-- `T_INIT_LOADKEY` in ms. -/
  tInitLoadKey : Nat
  /-- `T_INIT_AUTH` in ms. -/
  tInitAuth    : Nat
  /-- `T_TRAIL` in ms. -/
  tTrail       : Nat
  deriving DecidableEq, Repr

/-- The parameters of the block that `State.reset` describes: unbounded capacity (D25) and the 500 ms
waits as R6 gives them.
DESIGN CHOICE (log 4): the ranged figures 100, 2000 and 50 ms lie in the spec's approximate ranges. -/
def Config.standard : Config where
  rxCapacity   := none
  tWrite       := 100
  tInitPoll    := 500
  tInitRead    := 2000
  tInitLoadKey := 2000
  tInitAuth    := 500
  tTrail       := 50

/-! ## Free values (no body: nothing in Lean can prove what they are) -/

/-- U4, D23: the environment's answer to a `Write` that the script of State does not answer;
the argument is the transport's draw counter. -/
opaque Config.freeWriteAnswer : Nat → WriteAnswer

/-- U4, D23: the environment's answer to a `WaitForBytes` that the script of State does not answer. -/
opaque Config.freeWaitAnswer : Nat → WaitAnswer

/-- U4, D23: the bytes (possibly none) of a `ReadAvailable` that the script of State does not answer. -/
opaque Config.freeChunk : Nat → Bytes

/-- R6, R166, D10: `hexRender`, OPEN: the text form of the bytes of a CardInfo field. -/
opaque Config.hexRender : Bytes → String

end Sys2Proof
end

