-- ==== Sys2Proof/Syntax.lean ====
section
/-! DEFINITION. The value types of 00_scope.md R12, the requests and unit calls of the host's ports
(10_state.md R35, R36) and the ONE instruction type: a constructor for each row of the opcode table. -/

namespace Sys2Proof

/-- R7: `Result T E` is `Ok v` or `Err e`. -/
inductive Result (α ε : Type) where
  | ok  (v : α)
  | err (e : ε)
  deriving DecidableEq, Repr

/-- R12: the two key types; their wire codes are in `codeOf`. -/
inductive KeyType where
  | A
  | B
  deriving DecidableEq, Repr

/-- R23, R35: a key is exactly six bytes; no value of another length exists. `k0` is sent first (R88). -/
structure Key where
  k0 : Byte
  k1 : Byte
  k2 : Byte
  k3 : Byte
  k4 : Byte
  k5 : Byte
  deriving DecidableEq, Repr

/-- R12: a decoded frame. Only DECODE makes one (R115); `Frame.isDecoded` in WellFormed is that condition. -/
structure Frame where
  raw      : Bytes
  lenField : Byte
  pcb      : Byte
  ins      : Byte
  data     : Bytes
  deriving DecidableEq, Repr

/-- R12, R251. -/
inductive FrameError where
  | tooShort
  | badBoundary
  | lrcMismatch
  deriving DecidableEq, Repr

/-- R80: what the marker of a response says. -/
inductive Template where
  | success
  | error
  | malformed
  deriving DecidableEq, Repr

/-- R12, R251. -/
inductive ResponseError where
  | unexpectedTemplate
  | missingTag
  | shortData
  | commandMismatch
  deriving DecidableEq, Repr

/-- R12, R251. -/
inductive TransportError where
  | writeTimeout
  | readTimeout
  deriving DecidableEq, Repr

/-- R12: the four card fields; `none` is the source's sentinel `"-"` (D10). -/
structure CardInfo where
  type : Option Bytes
  uid  : Option Bytes
  sak  : Option Bytes
  atq  : Option Bytes
  deriving DecidableEq, Repr

/-- R12: why an authentication attempt failed. -/
inductive FailReason where
  | invalidParameter
  | protocolError (e : FrameError)
  | deviceError (code : Byte) (message : String)
  | unknownTemplate
  | responseFailure (e : ResponseError)
  | transportFailure (e : TransportError)
  deriving DecidableEq, Repr

/-- R12, R190: the states of an authentication session. -/
inductive AuthState where
  | idle
  | loadingKey
  | keyLoaded
  | authenticating
  | authenticated
  | failed (reason : FailReason)
  deriving DecidableEq, Repr

/-- R21: the operation that owns the transport. -/
inductive Op where
  | poll
  | readBlock
  | authenticate
  deriving DecidableEq, Repr

/-- R21: where a round trip stands. -/
inductive Phase where
  | rtWrite
  | rtWaitInit
  | rtReadInit
  | rtWaitTrail
  | rtReadTrail
  deriving DecidableEq, Repr

/-- R35: the requests of the host request port. -/
inductive Request where
  | poll
  | readBlock (block : Byte)
  | authenticate (keyType : KeyType) (keyNumber sector : Byte) (key : Key)
  deriving DecidableEq, Repr

/-- R36: a call of a unit operation on the combinational port. -/
inductive UnitCall where
  | lrc (buffer : Bytes)
  | encode (pcb ins : Byte) (data : Bytes)
  | decode (buffer : Bytes)
  | tlvFind (buffer : Bytes) (tag1 tag2 : Byte)
  | buildPoll
  | buildReadBlock (block : Byte)
  | buildLoadKey (keyType : KeyType) (keyNumber : Byte) (key : Key)
  | buildAuthenticate (keyType : KeyType) (keyNumber sector : Byte)
  | classify (frame : Frame)
  | parseCardInfo (frame : Frame)
  | parseBlockData (frame : Frame)
  | parseErrorCode (frame : Frame)
  | errorMessage (code : Byte)
  deriving DecidableEq, Repr

/-- The instructions of the block: one constructor for each of the 26 rows of the opcode table, in its order.
The first nine are the wire forms of R91; they have an encoding. The others are host operations; the spec gives
them no binary encoding (R90, D2). -/
inductive Instr where
  /-- CMD_POLL, R82 -/
  | cmdPoll
  /-- CMD_READ_BLOCK, R83 -/
  | cmdReadBlock (block : Byte)
  /-- CMD_LOAD_KEY, R84 -/
  | cmdLoadKey (keyType : KeyType) (keyNumber : Byte) (key : Key)
  /-- CMD_AUTHENTICATE, R85 -/
  | cmdAuthenticate (keyType : KeyType) (keyNumber sector : Byte)
  /-- RSP_SUCCESS, R80: a response with marker `FF 01`; `tp` is the template payload (R81) -/
  | rspSuccess (lenField pcb ins : Byte) (tp : Bytes)
  /-- RSP_ERROR, R80: a response with marker `FF 03` -/
  | rspError (lenField pcb ins : Byte) (tp : Bytes)
  /-- RSP_MALFORMED, R80: a response with any other marker `m0 m1` -/
  | rspMalformed (lenField pcb ins m0 m1 : Byte) (tp : Bytes)
  /-- VAL_READ_BLOCK_DATA, R86: `DF 78 L A5 rest`; short values are of this form too (log 15) -/
  | valReadBlockData (rest : Bytes)
  /-- VAL_ERROR, R86: `DF 78 L value`; short values are of this form too (log 15) -/
  | valError (value : Bytes)
  /-- LRC, R110 -/
  | lrc (buffer : Bytes)
  /-- ENCODE, R112 -/
  | encode (pcb ins : Byte) (data : Bytes)
  /-- DECODE, R113 -/
  | decode (buffer : Bytes)
  /-- TLV_FIND, R130 -/
  | tlvFind (buffer : Bytes) (tag1 tag2 : Byte)
  /-- BUILD_POLL, R140 -/
  | buildPoll
  /-- BUILD_READ_BLOCK, R141 -/
  | buildReadBlock (block : Byte)
  /-- BUILD_LOAD_KEY, R142 -/
  | buildLoadKey (keyType : KeyType) (keyNumber : Byte) (key : Key)
  /-- BUILD_AUTHENTICATE, R143 -/
  | buildAuthenticate (keyType : KeyType) (keyNumber sector : Byte)
  /-- CLASSIFY, R160 -/
  | classify (frame : Frame)
  /-- PARSE_CARD_INFO, R161 -/
  | parseCardInfo (frame : Frame)
  /-- PARSE_BLOCK_DATA, R162 -/
  | parseBlockData (frame : Frame)
  /-- PARSE_ERROR_CODE, R163 -/
  | parseErrorCode (frame : Frame)
  /-- ERROR_MESSAGE, R164 -/
  | errorMessage (code : Byte)
  /-- ROUND_TRIP, R220: the port transaction of the phase that SEQ names -/
  | roundTrip
  /-- OP_POLL, R222 -/
  | opPoll
  /-- OP_READ_BLOCK, R223 -/
  | opReadBlock (block : Byte)
  /-- OP_AUTHENTICATE, R191 -/
  | opAuthenticate (keyType : KeyType) (keyNumber sector : Byte) (key : Key)
  deriving DecidableEq, Repr

/-- R35: the operation a request asks for. -/
def Request.toInstr : Request → Instr
  | .poll                    => .opPoll
  | .readBlock b             => .opReadBlock b
  | .authenticate kt kn sc k => .opAuthenticate kt kn sc k

/-- R36: the unit operation a call applies. -/
def UnitCall.toInstr : UnitCall → Instr
  | .lrc b                      => .lrc b
  | .encode p i d               => .encode p i d
  | .decode b                   => .decode b
  | .tlvFind b t1 t2            => .tlvFind b t1 t2
  | .buildPoll                  => .buildPoll
  | .buildReadBlock b           => .buildReadBlock b
  | .buildLoadKey kt kn k       => .buildLoadKey kt kn k
  | .buildAuthenticate kt kn sc => .buildAuthenticate kt kn sc
  | .classify f                 => .classify f
  | .parseCardInfo f            => .parseCardInfo f
  | .parseBlockData f           => .parseBlockData f
  | .parseErrorCode f           => .parseErrorCode f
  | .errorMessage c             => .errorMessage c

end Sys2Proof
end

