-- ==== Sys2Proof/Machine/State.lean ====
section
/-! DEFINITION. The state of the block (10_state.md R20 to R25), its ports as plain data (R32 to R36), the ways a
step can stop, and the state after reset (70_reset_and_hazards.md R280). -/

namespace Sys2Proof.Machine

/-- R21. -/
inductive SeqState where
  | ready
  | busy (op : Op) (phase : Phase)
  deriving DecidableEq, Repr

/-- R23: the record of an authentication attempt. -/
structure Session where
  keyType   : KeyType
  keyNumber : Byte
  sector    : Byte
  key       : Key
  state     : AuthState
  deriving DecidableEq, Repr

/-- R222: the failures POLL reports: those of a round trip and of DECODE (R255). -/
inductive TripFailure where
  | frameFailure (e : FrameError)
  | transportFailure (e : TransportError)
  deriving DecidableEq, Repr

/-- R223: the failures READ BLOCK reports. -/
inductive ReadBlockFailure where
  | responseFailure (e : ResponseError)
  | frameFailure (e : FrameError)
  | transportFailure (e : TransportError)
  deriving DecidableEq, Repr

/-- R33: what the reporting sink receives. -/
inductive Report where
  | poll (r : Result (CardInfo × Bytes) TripFailure)
  | readBlock (r : Result Bytes ReadBlockFailure)
  | auth (finalState : AuthState)
  deriving DecidableEq, Repr

/-- R28, R36: the result of a unit operation on the combinational port. -/
inductive UnitResult where
  | byte (b : Byte)
  | bytes (b : Bytes)
  | frame (r : Result Frame FrameError)
  | value (v : Option Bytes)
  | template (t : Template)
  | cardInfo (c : CardInfo)
  | blockData (r : Result Bytes ResponseError)
  | errorCode (r : Result (Byte × String) ResponseError)
  | text (s : String)
  deriving DecidableEq, Repr

/-- What passes a port of the block, one constructor for each kind of transaction (R11, R32 to R36). -/
inductive PortEvent where
  /-- R35: the host request port accepted a request -/
  | accept (q : Request)
  /-- R32: `Write(frame)`, the value of `T_WRITE`, and the answer -/
  | write (frame : Bytes) (ms : Nat) (answer : WriteAnswer)
  /-- R32: `WaitForBytes(t)`, the value of `t`, and the answer -/
  | wait (t : Timeout) (ms : Nat) (answer : WaitAnswer)
  /-- R32: `ReadAvailable()` and the bytes it returned -/
  | read (chunk : Bytes)
  /-- R33 -/
  | report (r : Report)
  /-- R34 -/
  | notify (old new : AuthState)
  /-- R36: a result on the combinational port -/
  | result (r : UnitResult)
  /-- R281: the reset input was taken -/
  | reset
  deriving DecidableEq, Repr

/-- R32, D23: the environment's answers, which no law governs: what is scripted, one list for each kind of
transaction, next answer first; `draws` counts the transactions and is what a free answer is applied to where a
list is at its end. -/
structure Transport where
  writes : List WriteAnswer
  waits  : List WaitAnswer
  reads  : List Bytes
  draws  : Nat
  deriving DecidableEq, Repr

/-- The whole machine. -/
structure State where
  /-- R21: SEQ, in the place of a program counter (R27) -/
  seq       : SeqState
  /-- R22: RX, the response assembly buffer -/
  rx        : Bytes
  /-- R23: SESSION; `none` is the spec's `Absent` -/
  session   : Option Session
  /-- R24: TX; `none` is the spec's `unwritten`, its value after reset -/
  tx        : Option Bytes
  /-- R25: TINIT; `none` is the spec's `unwritten`, its value after reset -/
  tinit     : Option InitWait
  /-- R6, R26: the parameters of this block; no step writes them -/
  cfg       : Config
  /-- R32: the environment behind the transport port -/
  transport : Transport
  /-- R35: the requests the host presents, in the host's order; held while SEQ is busy (R225) -/
  requests  : List Request
  /-- R36: the calls presented on the combinational port -/
  units     : List UnitCall
  /-- R281: the reset input -/
  resetLine : Bool
  /-- What has passed the block's ports, oldest first (R57) -/
  trace     : List PortEvent
  deriving DecidableEq, Repr

/-- Why the block stops with an error. No run from a state that meets `Invariant` (Safety) comes to one. -/
inductive Fault where
  /-- U3 (93_implementation_defined.md:21), R24: TX is read before its first write, and the spec's treatment of that
  read is `fault`. Raised by ROUND_TRIP in `RtWrite`. Safe. -/
  | txUnwritten
  /-- U3 (93_implementation_defined.md:21), R25: TINIT is read before its first write, and the spec's treatment of that
  read is `fault`. Raised by ROUND_TRIP in `RtWaitInit`. Safe. -/
  | tinitUnwritten
  /-- U3, R23: a field of an absent session is read. Raised by the completion of an AUTHENTICATE round trip. Safe. -/
  | sessionAbsent
  /-- R220: an AUTHENTICATE round trip ends while SESSION.state is neither LoadingKey nor Authenticating; the spec
  gives no completion rule. Safe: the model stops where the spec is silent. -/
  | completionUndefined
  deriving DecidableEq, Repr

/-- Where the model gives an instruction no meaning. -/
inductive Refusal where
  /-- An instruction the model does not cover, by its mnemonic. No arm answers it. Safe. -/
  | notModelled (mnemonic : String)
  /-- R111: `refuse(EncodeTooLong)`. Raised by ENCODE for more than 253 DATA bytes. Safe. -/
  | encodeTooLong
  /-- R227: `refuse(RxOverflow)`. Raised by ROUND_TRIP where a chunk exceeds a finite `RX_CAPACITY`. Safe. -/
  | rxOverflow
  /-- R24, R57: a command frame that is not the one TX holds in `RtWrite`. The block writes no other frame. Raised by
  the CMD_ rows when they are applied outside that phase, never by a step. Safe. -/
  | commandNotDue
  deriving DecidableEq, Repr

/-- R280: the state after reset. Nothing is presented on a port and nothing has passed one.
DESIGN CHOICE (log 4): the parameters are `Config.standard`. -/
def State.reset : State where
  seq       := .ready
  rx        := []
  session   := none
  tx        := none
  tinit     := none
  cfg       := Config.standard
  transport := { writes := [], waits := [], reads := [], draws := 0 }
  requests  := []
  units     := []
  resetLine := false
  trace     := []

end Sys2Proof.Machine
end

