-- ==== Sys2Proof/Machine/Operands.lean ====
section
/-! DEFINITION. Buffer access and operand assembly: every way a rule reads a byte of a buffer (00_scope.md R8)
or turns an operand into bytes (30_encoding.md R88). -/

namespace Sys2Proof

/-- R8: `B[i]`. Every rule guards the offset first; outside a buffer the value is not used. -/
def byteAt (b : Bytes) (i : Nat) : Byte := b.getD i 0

/-- R8: `B[i..j]`, both ends inside, empty when `j < i`. -/
def slice (b : Bytes) (i j : Nat) : Bytes := (b.drop i).take (j + 1 - i)

/-- R12, R88: the wire code of a key type. -/
def codeOf : KeyType → Byte
  | .A => 0x00
  | .B => 0x04

/-- R12, N24: the key type of a wire code; no other code exists. -/
def keyTypeOf (b : Byte) : Option KeyType :=
  if b = 0x00 then some .A else if b = 0x04 then some .B else none

/-- R88: the key's bytes in the order given. -/
def Key.bytes (k : Key) : Bytes := [k.k0, k.k1, k.k2, k.k3, k.k4, k.k5]

/-- R84, R88: the RFU field of LOAD KEY, six bytes of `FF`; it is no operand. -/
def rfu : Bytes := List.replicate 6 0xFF

/-- R75: the bytes of a TLV element; the length byte is the value's length. -/
def tlvElement (tag1 tag2 : Byte) (value : Bytes) : Bytes :=
  tag1 :: tag2 :: BitVec.ofNat 8 value.length :: value

/-- R81: `TP(f) = f.raw[6..len(f.raw)-3]`, from after the marker up to the byte before the LRC. -/
def templatePayload (f : Frame) : Bytes := slice f.raw 6 (f.raw.length - 3)

/-- R6, R25, R221: the value of a timeout, as the block passes it to the transport. -/
def Config.millis (c : Config) : Timeout → Nat
  | .init .poll         => c.tInitPoll
  | .init .readBlock    => c.tInitRead
  | .init .loadKey      => c.tInitLoadKey
  | .init .authenticate => c.tInitAuth
  | .trail              => c.tTrail

/-- R22, R227: whether `n` bytes fit the receive buffer. -/
def Config.fits (c : Config) (n : Nat) : Bool :=
  match c.rxCapacity with
  | none     => true
  | some cap => decide (n ≤ cap)

end Sys2Proof
end

