-- ==== Sys2Proof/Machine/Flags.lean ====
section
/-! DEFINITION. The block has no flags (10_state.md R28). What a flag would say is a typed result here: the
checksum and the tests that decide an outcome, each in the order that is its priority (60_exceptions.md R254). -/

namespace Sys2Proof

/-- R110: the XOR of the bytes, from `00`. -/
def lrcOf (b : Bytes) : Byte := b.foldl (fun acc x => acc ^^^ x) 0x00

/-- R113, R114: DECODE's three tests; the first that fails is the result. -/
def frameTest (b : Bytes) : Option FrameError :=
  let n := b.length
  if n < minFrame then some .tooShort
  else if byteAt b 0 ≠ stx ∨ byteAt b (n - 1) ≠ etx then some .badBoundary
  else if lrcOf (slice b 1 (n - 3)) ≠ byteAt b (n - 2) then some .lrcMismatch
  else none

/-- R80: the template that a marker pair names. -/
def templateOf (m0 m1 : Byte) : Template :=
  if m0 = 0xFF ∧ m1 = 0x01 then .success
  else if m0 = 0xFF ∧ m1 = 0x03 then .error
  else .malformed

/-- R162: what PARSE_BLOCK_DATA makes of a DF78 value: echo first, then the length. -/
def blockValueTest (v : Bytes) : Result Bytes ResponseError :=
  if v.length = 0 ∨ byteAt v 0 ≠ 0xA5 then .err .commandMismatch
  else if v.length - 1 < blockLen then .err .shortData
  else .ok (slice v 1 16)

/-- R163: the error code of a DF78 value: value offset 3, where the value reaches it. -/
def errorValueTest (v : Bytes) : Result Byte ResponseError :=
  if v.length < 4 then .err .missingTag else .ok (byteAt v 3)

/-- R192: the parameter ranges of AUTHENTICATE, compared as naturals. -/
def parametersValid (keyNumber sector : Byte) : Bool :=
  decide (keyNumber.toNat ≤ keyNumMax) && decide (sector.toNat ≤ sectorMax)

end Sys2Proof
end

