-- ==== Sys2Proof/Machine/UnitOps.lean ====
section
/-! DEFINITION. The unit operations as pure functions of their operands (10_state.md R36): PacketCodec,
TlvExtractor, CommandBuilder and ResponseInterpreter (40_ to 43_ of the spec). -/

namespace Sys2Proof

/-! ## PacketCodec -/

/-- R70, R72: STX, the checksummed bytes from LEN to the last BODY byte, their LRC, and ETX. -/
def sealFrame (covered : Bytes) : Bytes := stx :: (covered ++ [lrcOf covered, etx])

/-- R112: the frame ENCODE lays out, for DATA that fits (R111). -/
def frameBytes (pcb ins : Byte) (data : Bytes) : Bytes :=
  let body := pcb :: ins :: data
  sealFrame (BitVec.ofNat 8 body.length :: body)

/-- R111, R112: ENCODE; `none` is `refuse(EncodeTooLong)`. -/
def encodeFrame (pcb ins : Byte) (data : Bytes) : Option Bytes :=
  if data.length > maxData then none else some (frameBytes pcb ins data)

/-- R113, R115: DECODE. DATA is found by position; LEN is not checked (D4). -/
def decodeFrame (b : Bytes) : Result Frame FrameError :=
  match frameTest b with
  | some e => .err e
  | none   => .ok { raw := b, lenField := byteAt b 1, pcb := byteAt b 2, ins := byteAt b 3,
                    data := slice b 4 (b.length - 3) }

/-! ## TlvExtractor -/

/-- R130: TLV_FIND, the loose scan: the candidate at this offset, else the next offset. The test
`L ≤ rest.length` is R130's `i + 3 + L ≤ n` at the offset where the scan stands. -/
def tlvFind (tag1 tag2 : Byte) : Bytes → Option Bytes
  | a :: b :: l :: rest =>
    if a = tag1 ∧ b = tag2 ∧ l.toNat ≤ rest.length then some (rest.take l.toNat)
    else tlvFind tag1 tag2 (b :: l :: rest)
  | _ => none

/-! ## CommandBuilder -/

/-- R140: the POLL literal, bit for bit; ENCODE takes no part in it. -/
def buildPoll : Bytes := [0x02, 0x0A, 0x00, 0x3E, 0xDF, 0x7E, 0x01, 0x00, 0x96, 0x03]

/-- R141. -/
def buildReadBlock (block : Byte) : Bytes :=
  frameBytes pcbCmd insCmd (tlvElement 0xDF 0x78 [0xA5, block])

/-- R142. -/
def buildLoadKey (kt : KeyType) (keyNumber : Byte) (key : Key) : Bytes :=
  frameBytes pcbCmd insCmd (tlvElement 0xDF 0x78 ([0xA9, codeOf kt, keyNumber] ++ rfu ++ key.bytes))

/-- R143. -/
def buildAuthenticate (kt : KeyType) (keyNumber sector : Byte) : Bytes :=
  frameBytes pcbCmd insCmd (tlvElement 0xDF 0x78 [0xB0, codeOf kt, keyNumber, sector])

/-! ## ResponseInterpreter -/

/-- R160: CLASSIFY, from `raw[4]` and `raw[5]` alone (D28). A frame that DECODE returned has both bytes. -/
def classify (f : Frame) : Template := templateOf (byteAt f.raw 4) (byteAt f.raw 5)

/-- R77, R78: the search for the MIFARE command wrapper. -/
def findWrapper (f : Frame) : Option Bytes := tlvFind 0xDF 0x78 (templatePayload f)

/-- R161. -/
def parseCardInfo (f : Frame) : CardInfo :=
  match classify f with
  | .success =>
    let p := templatePayload f
    { type := tlvFind 0xDF 0x16 p, uid := tlvFind 0xDF 0x0D p,
      sak := tlvFind 0xDF 0x6B p, atq := tlvFind 0xDF 0x15 p }
  | .error     => { type := none, uid := none, sak := none, atq := none }
  | .malformed => { type := none, uid := none, sak := none, atq := none }

/-- R162. -/
def parseBlockData (f : Frame) : Result Bytes ResponseError :=
  if classify f ≠ .success then .err .unexpectedTemplate
  else match findWrapper f with
    | none   => .err .missingTag
    | some v => blockValueTest v

/-- R164, R87. -/
def errorMessage (code : Byte) : String :=
  if code = 0x08 then "authentication failed (wrong key/sector)"
  else if code = 0x05 then "general operation error"
  else "unknown error code"

/-- R163. -/
def parseErrorCode (f : Frame) : Result (Byte × String) ResponseError :=
  if classify f ≠ .error then .err .unexpectedTemplate
  else match findWrapper f with
    | none   => .err .missingTag
    | some v =>
      match errorValueTest v with
      | .err e   => .err e
      | .ok code => .ok (code, errorMessage code)

/-- R166, D10: the text of one CardInfo field; `hexRender` is OPEN. -/
def renderField : Option Bytes → String
  | none   => "-"
  | some b => Config.hexRender b

end Sys2Proof
end

