-- ==== Sys2Proof/Machine/Ops.lean ====
section
/-! DEFINITION. The named operations over the state: the ports' outputs, the transport's transactions, the start
and end of an operation, and taking a failure, which stands where an exception entry would (60_exceptions.md R258). -/

namespace Sys2Proof.Machine

/-- What a meaning answers. -/
abbrev Answer := Host.Outcome State Fault Refusal

/-! ## Outputs -/

/-- R224: an output or transaction, in the order the rules write it. -/
def State.emit (e : PortEvent) (s : State) : State := { s with trace := s.trace ++ [e] }

/-- R36: the result of a unit operation; no state element of R20 is read or written. -/
def State.giveResult (r : UnitResult) (s : State) : State := s.emit (.result r)

/-- R34: the notification of a write of SESSION.state, none where the value does not change. -/
def notification (old new : AuthState) : List PortEvent := if new = old then [] else [.notify old new]

/-- `SetState(x)` of 44_auth_workflow.md, on the session `ss`. -/
def State.setAuth (ss : Session) (x : AuthState) (s : State) : State :=
  { s with session := some { ss with state := x }, trace := s.trace ++ notification ss.state x }

/-- R222, R223: the report that ends POLL or READ BLOCK. -/
def State.endWithReport (r : Report) (s : State) : State :=
  { s with seq := .ready, trace := s.trace ++ [.report r] }

/-- R199: `SetState(x)` to a terminal state, then `FinishAuth()`. -/
def State.endAuth (ss : Session) (x : AuthState) (s : State) : State :=
  { s with seq := .ready, session := none,
           trace := s.trace ++ notification ss.state x ++ [.report (.auth x)] }

/-! ## The transport port (R32): one transaction each, answered by the environment -/

/-- The answer to the next `Write`. -/
def Transport.writeAnswer (t : Transport) : WriteAnswer :=
  match t.writes with
  | a :: _ => a
  | []     => Config.freeWriteAnswer t.draws

/-- The answer to the next `WaitForBytes`. -/
def Transport.waitAnswer (t : Transport) : WaitAnswer :=
  match t.waits with
  | a :: _ => a
  | []     => Config.freeWaitAnswer t.draws

/-- The bytes the next `ReadAvailable` returns. -/
def Transport.chunk (t : Transport) : Bytes :=
  match t.reads with
  | c :: _ => c
  | []     => Config.freeChunk t.draws

/-- `Write(frame)`: the whole frame in one transaction (R55). -/
def State.doWrite (frame : Bytes) (s : State) : State :=
  { s with
    transport := { s.transport with writes := s.transport.writes.tail, draws := s.transport.draws + 1 }
    trace     := s.trace ++ [.write frame s.cfg.tWrite s.transport.writeAnswer] }

/-- `WaitForBytes(t)`; it removes no byte (R56). -/
def State.doWait (t : Timeout) (s : State) : State :=
  { s with
    transport := { s.transport with waits := s.transport.waits.tail, draws := s.transport.draws + 1 }
    trace     := s.trace ++ [.wait t (s.cfg.millis t) s.transport.waitAnswer] }

/-- `ReadAvailable()`: what it returns is gone from the transport (R56). -/
def State.doRead (s : State) : State :=
  { s with
    transport := { s.transport with reads := s.transport.reads.tail, draws := s.transport.draws + 1 }
    trace     := s.trace ++ [.read s.transport.chunk] }

/-- R31, R58, R257: bytes that reach the transport while no assembly takes them stay there, behind the earlier
ones, for a later `ReadAvailable`. -/
def State.heldByTransport (b : Bytes) (s : State) : State :=
  { s with transport := { s.transport with reads := s.transport.reads ++ [b] } }

/-! ## Sequencing -/

/-- R220: `StartRoundTrip(pkt, t, op)`. -/
def State.startRoundTrip (pkt : Bytes) (t : InitWait) (op : Op) (s : State) : State :=
  { s with tx := some pkt, tinit := some t, rx := [], seq := .busy op .rtWrite }

/-- R27: SEQ advances to another phase of the same round trip. -/
def State.toPhase (op : Op) (ph : Phase) (s : State) : State := { s with seq := .busy op ph }

/-- R22: RX is emptied. -/
def State.clearRx (s : State) : State := { s with rx := [] }

/-- R225: a request presented while SEQ is busy is held behind those held already. -/
def State.hold (q : Request) (s : State) : State := { s with requests := s.requests ++ [q] }

/-- R281: reset while an operation is in flight abandons it; the transport and the host's ports are not the
block's to reset.
DESIGN CHOICE (log 7): requests and calls still presented stay presented. -/
def State.abandon (s : State) : State :=
  { s with seq := .ready, rx := [], session := none, tx := none, tinit := none, resetLine := false,
           trace := s.trace ++ [.reset] }

/-! ## Taking a failure -/

/-- R220: the completion of an AUTHENTICATE round trip reads SESSION.state, LoadingKey or Authenticating. -/
def State.inAttempt (s : State) (k : Session → Answer) : Answer :=
  match s.session with
  | none    => .fault .sessionAbsent
  | some ss =>
    match ss.state with
    | .loadingKey     => k ss
    | .authenticating => k ss
    | .idle           => .fault .completionUndefined
    | .keyLoaded      => .fault .completionUndefined
    | .authenticated  => .fault .completionUndefined
    | .failed _       => .fault .completionUndefined

/-- R223: a round-trip failure as READ BLOCK reports it. -/
def TripFailure.forReadBlock : TripFailure → ReadBlockFailure
  | .frameFailure e     => .frameFailure e
  | .transportFailure e => .transportFailure e

/-- R194, R197: a round-trip failure as the terminal reason of an attempt. -/
def TripFailure.reason : TripFailure → FailReason
  | .frameFailure e     => .protocolError e
  | .transportFailure e => .transportFailure e

/-- R258: what a failure of the transport or of DECODE does to the state, for the operation it ends: the report
and `SEQ <- Ready`, and for AUTHENTICATE the terminal state with its notification first. There is no return from
it (R259): the next request starts afresh. -/
def State.takeFailure (op : Op) (x : TripFailure) (s : State) : Answer :=
  match op with
  | .poll         => .next (s.endWithReport (.poll (.err x)))
  | .readBlock    => .next (s.endWithReport (.readBlock (.err x.forReadBlock)))
  | .authenticate => s.inAttempt fun ss => .next (s.endAuth ss (.failed x.reason))

end Sys2Proof.Machine
end

