-- ==== Sys2Proof/Machine/CommandBuilder.lean ====
section
/-! DEFINITION. The four builders (42_command_builder.md) as instructions of the combinational port. -/

namespace Sys2Proof.Machine

/-- R140. -/
def execBuildPoll (s : State) : Answer := .next (s.giveResult (.bytes buildPoll))

/-- R141. -/
def execBuildReadBlock (block : Byte) (s : State) : Answer :=
  .next (s.giveResult (.bytes (buildReadBlock block)))

/-- R142. -/
def execBuildLoadKey (keyType : KeyType) (keyNumber : Byte) (key : Key) (s : State) : Answer :=
  .next (s.giveResult (.bytes (buildLoadKey keyType keyNumber key)))

/-- R143. -/
def execBuildAuthenticate (keyType : KeyType) (keyNumber sector : Byte) (s : State) : Answer :=
  .next (s.giveResult (.bytes (buildAuthenticate keyType keyNumber sector)))

end Sys2Proof.Machine
end

