-- ==== Sys2Proof/WellFormed.lean ====
section
/-! DEFINITION. What a term of Instr must meet to be an instruction of the spec. -/

namespace Sys2Proof

/-- R115, R165: a `Frame` exists only as a result of DECODE. -/
def Frame.isDecoded (f : Frame) : Bool := decide (decodeFrame f.raw = .ok f)

/-- The conditions the spec puts on operands. ENCODE's length bound (R111) is not among them: a longer DATA can
be presented, and the meaning refuses it by the name the spec gives. -/
def Instr.wellFormed : Instr → Bool
  | .cmdPoll               => true
  | .cmdReadBlock _        => true
  | .cmdLoadKey _ _ _      => true
  | .cmdAuthenticate _ _ _ => true
  | .rspSuccess _ _ _ _    => true
  | .rspError _ _ _ _      => true
  -- R80: the marker is none of the two assigned pairs
  | .rspMalformed _ _ _ m0 m1 _ => decide (templateOf m0 m1 = .malformed)
  -- R75: the length byte counts the echo byte and the rest; no lower bound (log 15)
  | .valReadBlockData rest => decide (rest.length ≤ 254)
  -- R75: the length byte counts the value; no lower bound (log 15)
  | .valError value        => decide (value.length ≤ 255)
  | .lrc _                 => true
  | .encode _ _ _          => true
  | .decode _              => true
  | .tlvFind _ _ _         => true
  | .buildPoll             => true
  | .buildReadBlock _      => true
  | .buildLoadKey _ _ _    => true
  | .buildAuthenticate _ _ _ => true
  | .classify f            => f.isDecoded
  | .parseCardInfo f       => f.isDecoded
  | .parseBlockData f      => f.isDecoded
  | .parseErrorCode f      => f.isDecoded
  | .errorMessage _        => true
  | .roundTrip             => true
  | .opPoll                => true
  | .opReadBlock _         => true
  | .opAuthenticate _ _ _ _ => true

end Sys2Proof
end

