-- ==== Sys2Proof/Decode.lean ====
section
/-! DEFINITION. The wire forms of 30_encoding.md R91: the opcode table's rows as match and mask bytes, the
decoder, total on any bytes and refusing by name, and the encoder, written from the byte tables of R82 to R86. -/

namespace Sys2Proof

/-! ## The rows -/

/-- One row of the opcode table: byte strings, first wire byte leftmost. -/
structure FormRow where
  pattern : Bytes
  mask    : Bytes
  deriving DecidableEq, Repr

/-- The table's rule for its fixed-length rows: `(frame[i] AND mask[i]) == match[i]` for every `i`, and the
frame has the row's length. -/
def FormRow.matchesAll (r : FormRow) (b : Bytes) : Bool :=
  decide (b.length = r.pattern.length) && decide (List.zipWith (· &&& ·) b r.mask = r.pattern)

def rowPoll : FormRow where
  pattern := [0x02, 0x0A, 0x00, 0x3E, 0xDF, 0x7E, 0x01, 0x00, 0x96, 0x03]
  mask    := [0xFF, 0xFF, 0xFF, 0xFF, 0xFF, 0xFF, 0xFF, 0xFF, 0xFF, 0xFF]

def rowReadBlock : FormRow where
  pattern := [0x02, 0x07, 0x00, 0x3E, 0xDF, 0x78, 0x02, 0xA5, 0x00, 0x00, 0x03]
  mask    := [0xFF, 0xFF, 0xFF, 0xFF, 0xFF, 0xFF, 0xFF, 0xFF, 0x00, 0x00, 0xFF]

def rowLoadKey : FormRow where
  pattern := [0x02, 0x14, 0x00, 0x3E, 0xDF, 0x78, 0x0F, 0xA9, 0x00, 0x00, 0xFF, 0xFF, 0xFF, 0xFF, 0xFF, 0xFF,
              0x00, 0x00, 0x00, 0x00, 0x00, 0x00, 0x00, 0x03]
  mask    := [0xFF, 0xFF, 0xFF, 0xFF, 0xFF, 0xFF, 0xFF, 0xFF, 0xFB, 0x00, 0xFF, 0xFF, 0xFF, 0xFF, 0xFF, 0xFF,
              0x00, 0x00, 0x00, 0x00, 0x00, 0x00, 0x00, 0xFF]

def rowAuthenticate : FormRow where
  pattern := [0x02, 0x09, 0x00, 0x3E, 0xDF, 0x78, 0x04, 0xB0, 0x00, 0x00, 0x00, 0x00, 0x03]
  mask    := [0xFF, 0xFF, 0xFF, 0xFF, 0xFF, 0xFF, 0xFF, 0xFF, 0xFB, 0x00, 0x00, 0x00, 0xFF]

/-- The command rows, in the table's order. -/
def commandRows : List FormRow := [rowPoll, rowReadBlock, rowLoadKey, rowAuthenticate]

/-! ## The decoder -/

/-- Why bytes are no instruction. -/
inductive DecodeError where
  /-- no command row matches (R91) -/
  | noCommand
  /-- a command row matches and the LRC byte is not the one its fields give (R83 to R85) -/
  | commandLrc
  /-- the key type code is neither `00` nor `04` (R12) -/
  | keyTypeCode
  /-- not a response: DECODE fails (R113) -/
  | notResponse (e : FrameError)
  /-- not `DF 78 L A5 ...` of `3 + L` bytes (R86) -/
  | noBlockValue
  /-- not `DF 78 L ...` of `3 + L` bytes (R86) -/
  | noErrorValue
  deriving DecidableEq, Repr

/-- R83: the checksum of a READ BLOCK frame, from its field. -/
def lrcReadBlock (block : Byte) : Byte := 0x39 ^^^ block

/-- R84: the checksum of a LOAD KEY frame, from its fields. -/
def lrcLoadKey (code keyNumber : Byte) (k : Key) : Byte :=
  0x2B ^^^ code ^^^ keyNumber ^^^ (k.k0 ^^^ k.k1 ^^^ k.k2 ^^^ k.k3 ^^^ k.k4 ^^^ k.k5)

/-- R85: the checksum of an AUTHENTICATE frame, from its fields. -/
def lrcAuthenticate (code keyNumber sector : Byte) : Byte := 0x24 ^^^ code ^^^ keyNumber ^^^ sector

/-- R82 to R85, R91: the command frame that bytes are. -/
def decodeCommand (b : Bytes) : Result Instr DecodeError :=
  if rowPoll.matchesAll b then .ok .cmdPoll
  else if rowReadBlock.matchesAll b then
    if byteAt b 9 = lrcReadBlock (byteAt b 8) then .ok (.cmdReadBlock (byteAt b 8)) else .err .commandLrc
  else if rowLoadKey.matchesAll b then
    match keyTypeOf (byteAt b 8) with
    | none    => .err .keyTypeCode
    | some kt =>
      let k : Key := ⟨byteAt b 16, byteAt b 17, byteAt b 18, byteAt b 19, byteAt b 20, byteAt b 21⟩
      if byteAt b 22 = lrcLoadKey (byteAt b 8) (byteAt b 9) k then .ok (.cmdLoadKey kt (byteAt b 9) k)
      else .err .commandLrc
  else if rowAuthenticate.matchesAll b then
    match keyTypeOf (byteAt b 8) with
    | none    => .err .keyTypeCode
    | some kt =>
      if byteAt b 11 = lrcAuthenticate (byteAt b 8) (byteAt b 9) (byteAt b 10) then
        .ok (.cmdAuthenticate kt (byteAt b 9) (byteAt b 10))
      else .err .commandLrc
  else .err .noCommand

/-- R80, R91: the response frame that bytes are; they must pass DECODE first. Success and Error are tested in
that order and Malformed takes the rest. -/
def decodeResponse (b : Bytes) : Result Instr DecodeError :=
  match decodeFrame b with
  | .err e => .err (.notResponse e)
  | .ok f  =>
    match classify f with
    | .success   => .ok (.rspSuccess f.lenField f.pcb f.ins (templatePayload f))
    | .error     => .ok (.rspError f.lenField f.pcb f.ins (templatePayload f))
    | .malformed =>
      .ok (.rspMalformed f.lenField f.pcb f.ins (byteAt b 4) (byteAt b 5) (templatePayload f))

/-- R86: `DF 78 L A5 rest`, of `3 + L` bytes.
DESIGN CHOICE (log 15): a value of fewer than 17 bytes, which R162 answers with ShortData, is of this form too. -/
def decodeBlockValue : Bytes → Result Instr DecodeError
  | a :: b :: l :: e :: rest =>
    if a = 0xDF ∧ b = 0x78 ∧ e = 0xA5 ∧ l.toNat = rest.length + 1 then .ok (.valReadBlockData rest)
    else .err .noBlockValue
  | _ => .err .noBlockValue

/-- R86: `DF 78 L value`, of `3 + L` bytes.
DESIGN CHOICE (log 15): a value of fewer than four bytes, which R163 answers with MissingTag, is of this form too. -/
def decodeErrorValue : Bytes → Result Instr DecodeError
  | a :: b :: l :: value =>
    if a = 0xDF ∧ b = 0x78 ∧ l.toNat = value.length then .ok (.valError value) else .err .noErrorValue
  | _ => .err .noErrorValue

/-- R91: where a wire form stands: the block sends the commands and receives the responses; a value stands in
the template payload of a Success or of an Error response. The place settles which row bytes belong to: a sent
frame that comes back is a response (R289), and the two value rows overlap. -/
inductive Channel where
  | sent
  | received
  | successValue
  | errorValue
  deriving DecidableEq, Repr

/-- The decoder of each place. -/
def decodeOn : Channel → Bytes → Result Instr DecodeError
  | .sent, b         => decodeCommand b
  | .received, b     => decodeResponse b
  | .successValue, b => decodeBlockValue b
  | .errorValue, b   => decodeErrorValue b

/-- Bytes whose place is not known: the rows in the table's order, the first that fits. -/
def decode (b : Bytes) : Result Instr DecodeError :=
  match decodeCommand b with
  | .ok i  => .ok i
  | .err _ =>
    match decodeResponse b with
    | .ok i  => .ok i
    | .err e =>
      match decodeBlockValue b with
      | .ok i  => .ok i
      | .err _ =>
        match decodeErrorValue b with
        | .ok i  => .ok i
        | .err _ => .err e

/-! ## The encoder -/

/-- R70, R79, R80: the bytes of a response. -/
def responseBytes (lenField pcb ins m0 m1 : Byte) (tp : Bytes) : Bytes :=
  sealFrame (lenField :: pcb :: ins :: m0 :: m1 :: tp)

/-- R113, R115: the frame DECODE returns for those bytes. -/
def responseFrame (lenField pcb ins m0 m1 : Byte) (tp : Bytes) : Frame where
  raw      := responseBytes lenField pcb ins m0 m1 tp
  lenField := lenField
  pcb      := pcb
  ins      := ins
  data     := m0 :: m1 :: tp

/-- The place of an instruction's wire form; a host operation has none (R90, D2). -/
def Instr.channel : Instr → Option Channel
  | .cmdPoll | .cmdReadBlock _ | .cmdLoadKey _ _ _ | .cmdAuthenticate _ _ _ => some .sent
  | .rspSuccess _ _ _ _ | .rspError _ _ _ _ | .rspMalformed _ _ _ _ _ _ => some .received
  | .valReadBlockData _ => some .successValue
  | .valError _ => some .errorValue
  | .lrc _ | .encode _ _ _ | .decode _ | .tlvFind _ _ _ | .buildPoll | .buildReadBlock _ | .buildLoadKey _ _ _
  | .buildAuthenticate _ _ _ | .classify _ | .parseCardInfo _ | .parseBlockData _ | .parseErrorCode _
  | .errorMessage _ | .roundTrip | .opPoll | .opReadBlock _ | .opAuthenticate _ _ _ _ => none

/-- R82 to R86: the bytes of a wire form, offset by offset; `none` for a host operation. -/
def encode : Instr → Option Bytes
  | .cmdPoll => some [0x02, 0x0A, 0x00, 0x3E, 0xDF, 0x7E, 0x01, 0x00, 0x96, 0x03]
  | .cmdReadBlock b =>
    some [0x02, 0x07, 0x00, 0x3E, 0xDF, 0x78, 0x02, 0xA5, b, lrcReadBlock b, 0x03]
  | .cmdLoadKey kt kn k =>
    some [0x02, 0x14, 0x00, 0x3E, 0xDF, 0x78, 0x0F, 0xA9, codeOf kt, kn, 0xFF, 0xFF, 0xFF, 0xFF, 0xFF, 0xFF,
      k.k0, k.k1, k.k2, k.k3, k.k4, k.k5, lrcLoadKey (codeOf kt) kn k, 0x03]
  | .cmdAuthenticate kt kn sc =>
    some [0x02, 0x09, 0x00, 0x3E, 0xDF, 0x78, 0x04, 0xB0, codeOf kt, kn, sc, lrcAuthenticate (codeOf kt) kn sc, 0x03]
  | .rspSuccess l p i tp => some (responseBytes l p i 0xFF 0x01 tp)
  | .rspError l p i tp => some (responseBytes l p i 0xFF 0x03 tp)
  | .rspMalformed l p i m0 m1 tp => some (responseBytes l p i m0 m1 tp)
  | .valReadBlockData rest => some (0xDF :: 0x78 :: BitVec.ofNat 8 (rest.length + 1) :: 0xA5 :: rest)
  | .valError v => some (0xDF :: 0x78 :: BitVec.ofNat 8 v.length :: v)
  | .lrc _ | .encode _ _ _ | .decode _ | .tlvFind _ _ _ | .buildPoll | .buildReadBlock _ | .buildLoadKey _ _ _
  | .buildAuthenticate _ _ _ | .classify _ | .parseCardInfo _ | .parseBlockData _ | .parseErrorCode _
  | .errorMessage _ | .roundTrip | .opPoll | .opReadBlock _ | .opAuthenticate _ _ _ _ => none

/-! ## The host's numbering -/

/-- `n` bytes of a word whose bit 0 is the least significant bit of the first byte. -/
def wordBytes : Nat → Nat → Bytes
  | 0, _     => []
  | n + 1, w => BitVec.ofNat 8 w :: wordBytes n (w / 256)

/-- The instruction the decoder reads from a table row's word; `none` where it refuses. A word shorter than its
instruction is read as it stands: a wire form ends where its bytes end (R74). -/
def decodeTableWord (nbits w : Nat) : Option Instr :=
  match decode (wordBytes (nbits / 8) w) with
  | .ok i  => some i
  | .err _ => none

end Sys2Proof
end

