-- ==== Sys2Proof/Machine/AuthWorkflow.lean ====
section
/-! DEFINITION. AuthenticationWorkflow (44_auth_workflow.md): OP_AUTHENTICATE and the completion of its two round
trips. -/

namespace Sys2Proof.Machine

/-- R191 to R193, R225: acceptance, validation before any I/O, and the start of the LOAD KEY round trip, in one
step; while SEQ is busy the request is held. Construction of the session sends no notification (R34). -/
def execOpAuthenticate (keyType : KeyType) (keyNumber sector : Byte) (key : Key) (s : State) : Answer :=
  match s.seq with
  | .busy _ _ => .next (s.hold (.authenticate keyType keyNumber sector key))
  | .ready    =>
    let s1 := s.emit (.accept (.authenticate keyType keyNumber sector key))
    let ss : Session := { keyType := keyType, keyNumber := keyNumber, sector := sector, key := key, state := .idle }
    if parametersValid keyNumber sector then
      .next ((s1.setAuth ss .loadingKey).startRoundTrip (buildLoadKey keyType keyNumber key) .loadKey .authenticate)
    else
      .next (s1.endAuth ss (.failed .invalidParameter))

/-- R194, R197: the terminal reason of an Error response. -/
def reasonOfErrorCode : Result (Byte × String) ResponseError → FailReason
  | .ok (c, m) => .deviceError c m
  | .err e     => .responseFailure e

/-- R195: KeyLoaded is passed through, and the AUTHENTICATE round trip starts, from the session's fields (R196). -/
def State.keyLoaded (ss : Session) (s : State) : State :=
  ((s.setAuth ss .keyLoaded).setAuth { ss with state := .keyLoaded } .authenticating).startRoundTrip
    (buildAuthenticate ss.keyType ss.keyNumber ss.sector) .authenticate .authenticate

/-- R194: the LOAD KEY response decoded, with template `t`. -/
def completeLoadKey (t : Template) (f : Frame) (ss : Session) (s : State) : State :=
  match t with
  | .success   => s.keyLoaded ss
  | .error     => s.endAuth ss (.failed (reasonOfErrorCode (parseErrorCode f)))
  | .malformed => s.endAuth ss (.failed .unknownTemplate)

/-- R197: the AUTHENTICATE response decoded, with template `t`. -/
def completeAuthenticate (t : Template) (f : Frame) (ss : Session) (s : State) : State :=
  match t with
  | .success   => s.endAuth ss .authenticated
  | .error     => s.endAuth ss (.failed (reasonOfErrorCode (parseErrorCode f)))
  | .malformed => s.endAuth ss (.failed .unknownTemplate)

/-- R220: `Complete(Authenticate, Ok)` after DECODE: R194 in LoadingKey, R197 in Authenticating. -/
def completeAttempt (t : Template) (f : Frame) (s : State) : Answer :=
  s.inAttempt fun ss =>
    if ss.state = .loadingKey then .next (completeLoadKey t f ss s) else .next (completeAuthenticate t f ss s)

end Sys2Proof.Machine
end

