-- ==== Sys2Proof/Machine/Operations.lean ====
section
/-! DEFINITION. 45_operations_transport.md: ROUND_TRIP, OP_POLL and OP_READ_BLOCK. -/

namespace Sys2Proof.Machine

/-- R222, R225. -/
def execOpPoll (s : State) : Answer :=
  match s.seq with
  | .busy _ _ => .next (s.hold .poll)
  | .ready    => .next ((s.emit (.accept .poll)).startRoundTrip buildPoll .poll .poll)

/-- R223, R225. -/
def execOpReadBlock (block : Byte) (s : State) : Answer :=
  match s.seq with
  | .busy _ _ => .next (s.hold (.readBlock block))
  | .ready    =>
    .next ((s.emit (.accept (.readBlock block))).startRoundTrip (buildReadBlock block) .readBlock .readBlock)

/-- R223: what READ BLOCK reports of a parse. -/
def readBlockResult : Result Bytes ResponseError → Result Bytes ReadBlockFailure
  | .ok d  => .ok d
  | .err e => .err (.responseFailure e)

/-- R222, R223, R194, R197: the end of operation `op` with a decoded response `f` of template `t`. -/
def completeFrame (op : Op) (t : Template) (f : Frame) (s : State) : Answer :=
  match op with
  | .poll         => .next (s.endWithReport (.poll (.ok (parseCardInfo f, f.raw))))
  | .readBlock    => .next (s.endWithReport (.readBlock (readBlockResult (parseBlockData f))))
  | .authenticate => completeAttempt t f s

/-- R220: `Complete(op, r)`. -/
def complete (op : Op) (r : Result Bytes TransportError) (s : State) : Answer :=
  match r with
  | .err e  => s.takeFailure op (.transportFailure e)
  | .ok buf =>
    match decodeFrame buf with
    | .err fe => s.takeFailure op (.frameFailure fe)
    | .ok f   => completeFrame op (classify f) f s

/-- R220, phase `RtWrite`, with the frame TX holds. -/
def writePhase (op : Op) (pkt : Bytes) (s : State) : Answer :=
  match s.transport.writeAnswer with
  | .ok         => .next ((s.doWrite pkt).toPhase op .rtWaitInit)
  | .writeError => complete op (.err .writeTimeout) (s.doWrite pkt).clearRx

/-- R220, phase `RtWaitInit`, with the timeout TINIT holds. -/
def waitInitPhase (op : Op) (t : InitWait) (s : State) : Answer :=
  match s.transport.waitAnswer with
  | .ok       => .next ((s.doWait (.init t)).toPhase op .rtReadInit)
  | .timedOut => complete op (.err .readTimeout) (s.doWait (.init t)).clearRx

/-- R220, R227: `Append(c)` and the trailing wait next, in phases `RtReadInit` and `RtReadTrail`. -/
def readPhase (op : Op) (s : State) : Answer :=
  let c := s.transport.chunk
  if s.cfg.fits (s.rx.length + c.length) then
    .next ({ s.doRead with rx := s.rx ++ c }.toPhase op .rtWaitTrail)
  else .refused .rxOverflow

/-- R220: the trailing wait has timed out, the normal end of assembly (C3). -/
def State.endAssembly (s : State) : State := (s.doWait .trail).clearRx

/-- R220, phase `RtWaitTrail`. -/
def waitTrailPhase (op : Op) (s : State) : Answer :=
  match s.transport.waitAnswer with
  | .ok       => .next ((s.doWait .trail).toPhase op .rtReadTrail)
  | .timedOut => complete op (.ok s.rx) s.endAssembly

/-- R220, R224: ROUND_TRIP, the one port transaction of the phase SEQ names and all that follows from it. Without a
round trip in progress the block makes no transaction (R265).
The two faults are the spec's own treatment, U3 (93_implementation_defined.md:21): TX or TINIT read "before their
first write" is a `fault`, which line 8 there defines as "the model stops with an error; no run continues from it".
R280 gives both the reset value "unwritten (no value)", and no run from reset reads them so. -/
def execRoundTrip (s : State) : Answer :=
  match s.seq with
  | .ready                => .next s
  | .busy op .rtWrite     =>
    match s.tx with
    | none     => .fault .txUnwritten
    | some pkt => writePhase op pkt s
  | .busy op .rtWaitInit  =>
    match s.tinit with
    | none   => .fault .tinitUnwritten
    | some t => waitInitPhase op t s
  | .busy op .rtReadInit  => readPhase op s
  | .busy op .rtWaitTrail => waitTrailPhase op s
  | .busy op .rtReadTrail => readPhase op s

end Sys2Proof.Machine
end

