-- ==== Sys2Proof/Machine/CommandFrames.lean ====
section
/-! DEFINITION. The command frames of 30_encoding.md R82 to R85 as instructions: TX holds one of them, and phase
`RtWrite` sends it. -/

namespace Sys2Proof.Machine

/-- R24, R57, R220: the frame TX holds is written in phase `RtWrite`, and no other frame in any phase. -/
def sendFrame (pkt : Bytes) (s : State) : Answer :=
  match s.seq with
  | .busy op .rtWrite => if s.tx = some pkt then writePhase op pkt s else .refused .commandNotDue
  | .busy _ .rtWaitInit | .busy _ .rtReadInit | .busy _ .rtWaitTrail | .busy _ .rtReadTrail | .ready =>
    .refused .commandNotDue

/-- R82. -/
def execCmdPoll (s : State) : Answer := sendFrame buildPoll s

/-- R83. -/
def execCmdReadBlock (block : Byte) (s : State) : Answer := sendFrame (buildReadBlock block) s

/-- R84. -/
def execCmdLoadKey (keyType : KeyType) (keyNumber : Byte) (key : Key) (s : State) : Answer :=
  sendFrame (buildLoadKey keyType keyNumber key) s

/-- R85. -/
def execCmdAuthenticate (keyType : KeyType) (keyNumber sector : Byte) (s : State) : Answer :=
  sendFrame (buildAuthenticate keyType keyNumber sector) s

end Sys2Proof.Machine
end

