-- ==== Sys2Proof/Machine/PacketCodec.lean ====
section
/-! DEFINITION. LRC, ENCODE and DECODE (40_packet_codec.md) as instructions of the combinational port. -/

namespace Sys2Proof.Machine

/-- R110. -/
def execLrc (buffer : Bytes) (s : State) : Answer := .next (s.giveResult (.byte (lrcOf buffer)))

/-- R111, R112. -/
def execEncode (pcb ins : Byte) (data : Bytes) (s : State) : Answer :=
  match encodeFrame pcb ins data with
  | none   => .refused .encodeTooLong
  | some b => .next (s.giveResult (.bytes b))

/-- R113. -/
def execDecode (buffer : Bytes) (s : State) : Answer := .next (s.giveResult (.frame (decodeFrame buffer)))

end Sys2Proof.Machine
end

