-- ==== Sys2Proof/Machine/ResponseFrames.lean ====
section
/-! DEFINITION. The responses of 30_encoding.md R80 and the values of R86 as instructions: what RX holds when the
trailing wait times out ends the operation in flight. Where no assembly ends on them their bytes are bytes at the
transport, and stay there (R58, R257). -/

namespace Sys2Proof.Machine

/-- R220: the operation whose assembly ends now, with the trailing wait timing out. -/
def State.assemblyEnds (s : State) : Option Op :=
  match s.seq with
  | .busy op .rtWaitTrail => if s.transport.waitAnswer = .timedOut then some op else none
  | .busy _ .rtWrite | .busy _ .rtWaitInit | .busy _ .rtReadInit | .busy _ .rtReadTrail | .ready => none

/-- R222, R223, R194, R197: RX holds the response `f`, of template `t`. -/
def receiveFrame (t : Template) (f : Frame) (s : State) : Answer :=
  match s.assemblyEnds with
  | some op => if s.rx = f.raw then completeFrame op t f s.endAssembly else .next (s.heldByTransport f.raw)
  | none    => .next (s.heldByTransport f.raw)

/-- R80, R160: marker `FF 01`. -/
def execRspSuccess (lenField pcb ins : Byte) (tp : Bytes) (s : State) : Answer :=
  receiveFrame .success (responseFrame lenField pcb ins 0xFF 0x01 tp) s

/-- R80, R160: marker `FF 03`. -/
def execRspError (lenField pcb ins : Byte) (tp : Bytes) (s : State) : Answer :=
  receiveFrame .error (responseFrame lenField pcb ins 0xFF 0x03 tp) s

/-- R80, R160: any other marker. -/
def execRspMalformed (lenField pcb ins m0 m1 : Byte) (tp : Bytes) (s : State) : Answer :=
  receiveFrame .malformed (responseFrame lenField pcb ins m0 m1 tp) s

/-- R86: the DF78 value of the response that bytes are, where its template is `t`. -/
def wrapperIn (t : Template) (b : Bytes) : Option Bytes :=
  match decodeFrame b with
  | .err _ => none
  | .ok f  => if classify f = t then findWrapper f else none

/-- R86, R162: a Success response to READ BLOCK with a DF78 value that opens with `A5`; `rest` follows the echo. -/
def execValReadBlockData (rest : Bytes) (s : State) : Answer :=
  if s.assemblyEnds = some .readBlock ∧ wrapperIn .success s.rx = some (0xA5 :: rest) then
    .next (s.endAssembly.endWithReport (.readBlock (readBlockResult (blockValueTest (0xA5 :: rest)))))
  else .next (s.heldByTransport (tlvElement 0xDF 0x78 (0xA5 :: rest)))

/-- R163: what an error value tells the workflow. -/
def errorValueReason (value : Bytes) : FailReason :=
  match errorValueTest value with
  | .ok code => .deviceError code (errorMessage code)
  | .err e   => .responseFailure e

/-- R86, R194, R197: an Error response to LOAD KEY or AUTHENTICATE with this DF78 value. -/
def execValError (value : Bytes) (s : State) : Answer :=
  if s.assemblyEnds = some .authenticate ∧ wrapperIn .error s.rx = some value then
    s.endAssembly.inAttempt fun ss => .next (s.endAssembly.endAuth ss (.failed (errorValueReason value)))
  else .next (s.heldByTransport (tlvElement 0xDF 0x78 value))

end Sys2Proof.Machine
end

