-- ==== Sys2Proof/Machine/ResponseInterpreter.lean ====
section
/-! DEFINITION. CLASSIFY, the three parsers and ERROR_MESSAGE (43_response_interpreter.md) as instructions of the
combinational port. -/

namespace Sys2Proof.Machine

/-- R160. -/
def execClassify (frame : Frame) (s : State) : Answer := .next (s.giveResult (.template (classify frame)))

/-- R161. -/
def execParseCardInfo (frame : Frame) (s : State) : Answer :=
  .next (s.giveResult (.cardInfo (parseCardInfo frame)))

/-- R162. -/
def execParseBlockData (frame : Frame) (s : State) : Answer :=
  .next (s.giveResult (.blockData (parseBlockData frame)))

/-- R163. -/
def execParseErrorCode (frame : Frame) (s : State) : Answer :=
  .next (s.giveResult (.errorCode (parseErrorCode frame)))

/-- R164. -/
def execErrorMessage (code : Byte) (s : State) : Answer := .next (s.giveResult (.text (errorMessage code)))

end Sys2Proof.Machine
end

