-- ==== Sys2Proof/Machine/TlvExtractor.lean ====
section
/-! DEFINITION. TLV_FIND (41_tlv_extractor.md) as an instruction of the combinational port. -/

namespace Sys2Proof.Machine

/-- R130; the scan is loose and is not to be tightened (R132). -/
def execTlvFind (buffer : Bytes) (tag1 tag2 : Byte) (s : State) : Answer :=
  .next (s.giveResult (.value (tlvFind tag1 tag2 buffer)))

end Sys2Proof.Machine
end

