-- ==== Sys2Proof/Machine/Dispatch.lean ====
section
/-! DEFINITION. One arm per constructor of Instr. -/

namespace Sys2Proof.Machine

def exec (i : Instr) (s : State) : Host.Outcome State Fault Refusal :=
  match i with
  | .cmdPoll => Sys2Proof.Machine.execCmdPoll s
  | .cmdReadBlock block => Sys2Proof.Machine.execCmdReadBlock block s
  | .cmdLoadKey keyType keyNumber key => Sys2Proof.Machine.execCmdLoadKey keyType keyNumber key s
  | .cmdAuthenticate keyType keyNumber sector => Sys2Proof.Machine.execCmdAuthenticate keyType keyNumber sector s
  | .rspSuccess lenField pcb ins tp => Sys2Proof.Machine.execRspSuccess lenField pcb ins tp s
  | .rspError lenField pcb ins tp => Sys2Proof.Machine.execRspError lenField pcb ins tp s
  | .rspMalformed lenField pcb ins m0 m1 tp => Sys2Proof.Machine.execRspMalformed lenField pcb ins m0 m1 tp s
  | .valReadBlockData rest => Sys2Proof.Machine.execValReadBlockData rest s
  | .valError value => Sys2Proof.Machine.execValError value s
  | .lrc buffer => Sys2Proof.Machine.execLrc buffer s
  | .encode pcb ins data => Sys2Proof.Machine.execEncode pcb ins data s
  | .decode buffer => Sys2Proof.Machine.execDecode buffer s
  | .tlvFind buffer tag1 tag2 => Sys2Proof.Machine.execTlvFind buffer tag1 tag2 s
  | .buildPoll => Sys2Proof.Machine.execBuildPoll s
  | .buildReadBlock block => Sys2Proof.Machine.execBuildReadBlock block s
  | .buildLoadKey keyType keyNumber key => Sys2Proof.Machine.execBuildLoadKey keyType keyNumber key s
  | .buildAuthenticate keyType keyNumber sector => Sys2Proof.Machine.execBuildAuthenticate keyType keyNumber sector s
  | .classify frame => Sys2Proof.Machine.execClassify frame s
  | .parseCardInfo frame => Sys2Proof.Machine.execParseCardInfo frame s
  | .parseBlockData frame => Sys2Proof.Machine.execParseBlockData frame s
  | .parseErrorCode frame => Sys2Proof.Machine.execParseErrorCode frame s
  | .errorMessage code => Sys2Proof.Machine.execErrorMessage code s
  | .roundTrip => Sys2Proof.Machine.execRoundTrip s
  | .opPoll => Sys2Proof.Machine.execOpPoll s
  | .opReadBlock block => Sys2Proof.Machine.execOpReadBlock block s
  | .opAuthenticate keyType keyNumber sector key => Sys2Proof.Machine.execOpAuthenticate keyType keyNumber sector key s

end Sys2Proof.Machine
end

