-- ==== Sys2Proof/Machine/Fetch.lean ====
section
/-! DEFINITION. What a step runs. The block has no stored program (20_memory.md R61): a call stands on the
combinational port, a request on the request port, a command frame in TX, a response in RX. -/

namespace Sys2Proof.Machine

/-- R86, R91: a received response as the innermost form that the operation in flight interprets. -/
def receivedForm (op : Op) (rx : Bytes) : Instr :=
  match decodeResponse rx with
  | .err _ => .roundTrip
  | .ok i  =>
    match op with
    | .poll         => i
    | .readBlock    =>
      match wrapperIn .success rx with
      | some (e :: rest) => if e = 0xA5 then .valReadBlockData rest else i
      | some []          => i
      | none             => i
    | .authenticate =>
      match wrapperIn .error rx with
      | some v => .valError v
      | none   => i

/-- R220: the instruction of the current phase. `RtWrite` runs the command frame in TX, an assembly that ends runs
the response in RX, and every other transaction is ROUND_TRIP's own. -/
def phaseInstr (op : Op) (ph : Phase) (s : State) : Instr :=
  match ph with
  | .rtWrite =>
    match s.tx with
    | none   => .roundTrip
    | some b =>
      match decodeCommand b with
      | .ok i  => i
      | .err _ => .roundTrip
  | .rtWaitTrail => if s.transport.waitAnswer = .timedOut then receivedForm op s.rx else .roundTrip
  | .rtWaitInit  => .roundTrip
  | .rtReadInit  => .roundTrip
  | .rtReadTrail => .roundTrip

/-- R224, R225: the next instruction and the state it runs in, with what was taken off a port gone from it.
DESIGN CHOICE (log 5): a call on the combinational port runs before the sequencer's next step. -/
def fetch (s : State) : Option (Instr × State) :=
  match s.units with
  | u :: us => some (u.toInstr, { s with units := us })
  | []      =>
    match s.seq with
    | .busy op ph => some (phaseInstr op ph s, s)
    | .ready      =>
      match s.requests with
      | []      => none
      | q :: qs => some (q.toInstr, { s with requests := qs })

/-! ## Placing a wire form where the next step runs it -/

/-- A state whose next step takes the sequencer's next transaction: no reset, no call on the combinational port. -/
def State.sequencerNext (s : State) : State := { s with resetLine := false, units := [] }

/-- The next step sends the frame `b` in round trip `op`; the write completes. -/
def State.placeSent (op : Op) (b : Bytes) (s : State) : State :=
  { s.sequencerNext with
    seq := .busy op .rtWrite, tx := some b,
    transport := { s.transport with writes := .ok :: s.transport.writes } }

/-- The next step ends the assembly of `b` in operation `op`. -/
def State.placeReceived (op : Op) (b : Bytes) (s : State) : State :=
  { s.sequencerNext with
    seq := .busy op .rtWaitTrail, rx := b,
    transport := { s.transport with waits := .timedOut :: s.transport.waits } }

/-- A session for an AUTHENTICATE round trip that is placed by hand. -/
def placedSession (kt : KeyType) (keyNumber sector : Byte) (key : Key) (x : AuthState) : Session :=
  { keyType := kt, keyNumber := keyNumber, sector := sector, key := key, state := x }

/-- The six zero bytes. -/
def zeroKey : Key := ⟨0, 0, 0, 0, 0, 0⟩

/-- The bytes `b` placed as the wire form they are: a command in TX, a response in RX, and a value inside the
response that carries it. Bytes that are no wire form are received as they stand. -/
def State.placeBytes (b : Bytes) (s : State) : State :=
  match decode b with
  | .ok .cmdPoll => s.placeSent .poll b
  | .ok (.cmdReadBlock _) => s.placeSent .readBlock b
  | .ok (.cmdLoadKey kt kn k) =>
    { s.placeSent .authenticate b with session := some (placedSession kt kn 0 k .loadingKey) }
  | .ok (.cmdAuthenticate kt kn sc) =>
    { s.placeSent .authenticate b with session := some (placedSession kt kn sc zeroKey .authenticating) }
  | .ok (.valReadBlockData _) => s.placeReceived .readBlock (responseBytes 0 pcbCmd insCmd 0xFF 0x01 b)
  | .ok (.valError _) =>
    { s.placeReceived .authenticate (responseBytes 0 pcbCmd insCmd 0xFF 0x03 b) with
      session := some (placedSession .A 0 0 zeroKey .loadingKey) }
  | .ok _  => s.placeReceived .poll b
  | .err _ => s.placeReceived .poll b

end Sys2Proof.Machine
end

