-- ==== Sys2Proof/Machine/Step.lean ====
section
/-! DEFINITION. One step of the block (45_operations_transport.md R224). -/

namespace Sys2Proof.Machine

/-- R224, R225, R265, R281: the reset input first; else the instruction that stands next, and without one the
block waits with all its state kept. -/
def step (s : State) : Host.Outcome State Fault Refusal :=
  if s.resetLine then .next s.abandon
  else
    match fetch s with
    | none         => .next s
    | some (i, s') => exec i s'

/-- `s` with the wire form whose bytes are the word placed so that the next step runs it (log 6). -/
def State.withFetchWord (s : State) (nbits w : Nat) : State := s.placeBytes (wordBytes (nbits / 8) w)

end Sys2Proof.Machine
end

