-- ==== Sys2Proof/Safety.lean ====
section
/-! DEFINITION. What counts as a safe run of the block: the invariant of its state, what its ports have carried,
and the transitions of an authentication session that the spec allows. -/

namespace Sys2Proof.Machine

/-! ## The invariant of the state -/

/-- R221: the initial wait of the current round trip; the session tells AUTHENTICATE's two round trips apart. -/
def tripWait (op : Op) (session : Option Session) : Option InitWait :=
  match op with
  | .poll         => some .poll
  | .readBlock    => some .readBlock
  | .authenticate =>
    match session with
    | none    => none
    | some ss => if ss.state = .loadingKey then some .loadKey else some .authenticate

/-- R140 to R143, R193, R195, R222, R223: the command of the current round trip is the operation's own, and for
AUTHENTICATE it is built from the session's fields. -/
def commandFits (op : Op) (session : Option Session) (i : Instr) : Bool :=
  match op with
  | .poll => decide (i = .cmdPoll)
  | .readBlock =>
    match i with
    | .cmdReadBlock _ => true
    | _ => false
  | .authenticate =>
    match session with
    | none    => false
    | some ss =>
      if ss.state = .loadingKey then decide (i = .cmdLoadKey ss.keyType ss.keyNumber ss.key)
      else decide (i = .cmdAuthenticate ss.keyType ss.keyNumber ss.sector)

/-- R24: TX holds the command frame of the current round trip. -/
def txFits (op : Op) (session : Option Session) (tx : Option Bytes) : Bool :=
  match tx with
  | none   => false
  | some b =>
    match decodeCommand b with
    | .ok i  => commandFits op session i
    | .err _ => false

/-- R23, R191, R192, R199: a session exists only during an AUTHENTICATE, with checked parameters and in one of the
two states that a step can leave it in (R195: never KeyLoaded). -/
def sessionFits (op : Op) (session : Option Session) : Bool :=
  match op, session with
  | .authenticate, some ss =>
    parametersValid ss.keyNumber ss.sector && (decide (ss.state = .loadingKey) || decide (ss.state = .authenticating))
  | .authenticate, none => false
  | .poll, none         => true
  | .readBlock, none    => true
  | .poll, some _       => false
  | .readBlock, some _  => false

/-- R22: RX is empty until the round trip's first read. -/
def rxFits (ph : Phase) (rx : Bytes) : Bool :=
  match ph with
  | .rtWrite     => rx.isEmpty
  | .rtWaitInit  => rx.isEmpty
  | .rtReadInit  => rx.isEmpty
  | .rtWaitTrail => true
  | .rtReadTrail => true

/-- The invariant, as a test: between operations RX is empty and no session exists (R22, R199); during one, RX, TX,
TINIT and SESSION are those of its round trip, and RX is within its capacity (R227). -/
def State.invariant (s : State) : Bool :=
  match s.seq with
  | .ready      => s.rx.isEmpty && s.session.isNone
  | .busy op ph =>
    rxFits ph s.rx && (s.rx.isEmpty || s.cfg.fits s.rx.length) && sessionFits op s.session
      && txFits op s.session s.tx && decide (s.tinit = tripWait op s.session)

/-- What every state of a run from reset meets. -/
def Invariant (s : State) : Prop := s.invariant = true

/-! ## What the ports have carried -/

/-- R32: the transport's transactions. -/
def PortEvent.isTransport : PortEvent → Bool
  | .write _ _ _ => true
  | .wait _ _ _  => true
  | .read _      => true
  | .accept _    => false
  | .report _    => false
  | .notify _ _  => false
  | .result _    => false
  | .reset       => false

/-- R33. -/
def PortEvent.isReport : PortEvent → Bool
  | .report _    => true
  | .write _ _ _ => false
  | .wait _ _ _  => false
  | .read _      => false
  | .accept _    => false
  | .notify _ _  => false
  | .result _    => false
  | .reset       => false

/-- R57, R226, R281: an accepted request is outstanding until its report; reset abandons what is in flight. -/
def countOutstanding (n : Int) : PortEvent → Int
  | .accept _    => n + 1
  | .report _    => n - 1
  | .reset       => 0
  | .write _ _ _ => n
  | .wait _ _ _  => n
  | .read _      => n
  | .notify _ _  => n
  | .result _    => n

/-- The accepted requests not yet reported. -/
def outstanding (trace : List PortEvent) : Int := trace.foldl countOutstanding 0

/-- R201: writes are counted from the acceptance of a request. -/
def countWrites (n : Nat) : PortEvent → Nat
  | .accept _    => 0
  | .write _ _ _ => n + 1
  | .report _    => n
  | .reset       => n
  | .wait _ _ _  => n
  | .read _      => n
  | .notify _ _  => n
  | .result _    => n

/-- The transport writes since the last accepted request. -/
def attemptWrites (trace : List PortEvent) : Nat := trace.foldl countWrites 0

/-- R226: one request is outstanding while SEQ is busy, none while it is ready. -/
def ReportLedger (s : State) : Prop :=
  match s.seq with
  | .ready    => outstanding s.trace = 0
  | .busy _ _ => outstanding s.trace = 1

/-- R201: the round trips begun before the one SEQ is in: one in AUTHENTICATE's second, else none. -/
def tripsBefore (s : State) : Nat :=
  match s.session with
  | none    => 0
  | some ss => if ss.state = .authenticating then 1 else 0

/-- R201, R220: the writes of the operation in flight so far: one for each round trip past `RtWrite`. -/
def WriteLedger (s : State) : Prop :=
  match s.seq with
  | .ready           => True
  | .busy _ .rtWrite => attemptWrites s.trace = tripsBefore s
  | .busy _ .rtWaitInit | .busy _ .rtReadInit | .busy _ .rtWaitTrail | .busy _ .rtReadTrail =>
    attemptWrites s.trace = tripsBefore s + 1

/-! ## The session's transitions -/

/-- R200: the failures that end a LOAD KEY or an AUTHENTICATE round trip. -/
def endsRoundTrip : FailReason → Bool
  | .transportFailure _ => true
  | .protocolError _    => true
  | .deviceError c m    => decide (m = errorMessage c)
  | .responseFailure e  => decide (e = .missingTag)
  | .unknownTemplate    => true
  | .invalidParameter   => false

/-- R200: the complete transition relation of SESSION.state. -/
def allowedTransition (old new : AuthState) : Bool :=
  match old, new with
  | .idle, .failed r               => decide (r = .invalidParameter)
  | .idle, .loadingKey             => true
  | .loadingKey, .keyLoaded        => true
  | .loadingKey, .failed r         => endsRoundTrip r
  | .keyLoaded, .authenticating    => true
  | .authenticating, .authenticated => true
  | .authenticating, .failed r     => endsRoundTrip r
  | _, _                           => false

/-- R190: the terminal states. -/
def isTerminal : AuthState → Bool
  | .authenticated  => true
  | .failed _       => true
  | .idle           => false
  | .loadingKey     => false
  | .keyLoaded      => false
  | .authenticating => false

/-! ## What a scan must find -/

/-- R131: a well-formed candidate for a tag at offset `i`, with length byte `l`. -/
def TlvAt (b : Bytes) (tag1 tag2 : Byte) (i : Nat) (l : Byte) : Prop :=
  b[i]? = some tag1 ∧ b[i + 1]? = some tag2 ∧ b[i + 2]? = some l ∧ i + 3 + l.toNat ≤ b.length

/-! ## Comparing two runs -/

/-- A step's answer with its next state mapped: what two runs that differ only in a part of the state agree on. -/
def Answer.map (g : State → State) : Answer → Answer
  | .next s    => .next (g s)
  | .fault r   => .fault r
  | .refused r => .refused r

/-- The same state with another key in the session. -/
def State.withKey (k : Key) (s : State) : State :=
  { s with session := s.session.map fun ss => { ss with key := k } }

/-- The same state with another past. -/
def State.withPast (past : List PortEvent) (s : State) : State := { s with trace := past ++ s.trace }

/-! ## Safe steps -/

/-- A step that does not stop with an error (U3). A refusal is the model's own limit (R253). -/
def StepIsSafe (s : State) : Prop := ∀ r, step s ≠ .fault r

end Sys2Proof.Machine
end

