-- ==== Sys2Proof/Certificates/Slice0/Obligations.lean ====
section
/-! DEFINITION. The statements for the provers, in the order of the spec's files. A statement of what an instruction
does gives the whole next state: what its record update does not name is unchanged, which is the frame. -/

open Sys2Proof Sys2Proof.Machine

/-! ## Reset and waiting -/

/-- R280: the reset values of the five state elements; the block then waits at the request port. Reading a field of
the absent session faults: that the reads are R220's, where a failed write, a timed-out initial wait or the end of
assembly ends an AUTHENTICATE round trip, is the model's inference (log 1, DEDUCED). -/
def Obligations.ResetLeavesTheBlockReady : Prop :=
  State.reset.seq = .ready ∧ State.reset.rx = [] ∧ State.reset.session = none ∧ State.reset.tx = none ∧
  State.reset.tinit = none ∧ step State.reset = .next State.reset ∧
  ∀ s : State, s.session = none →
    ((s.seq = .busy .authenticate .rtWrite ∧ s.tx ≠ none ∧ s.transport.writeAnswer = .writeError) ∨
      (s.seq = .busy .authenticate .rtWaitInit ∧ s.tinit ≠ none ∧ s.transport.waitAnswer = .timedOut) ∨
      (s.seq = .busy .authenticate .rtWaitTrail ∧ s.transport.waitAnswer = .timedOut)) →
    exec .roundTrip s = .fault .sessionAbsent

/-- R281: reset abandons what is in flight without report or notification and leaves R280's values; the transport
is not reset. That held requests and calls stay presented is the model's choice (log 7). -/
def Obligations.ResetAbandonsTheOperation : Prop :=
  ∀ s : State, s.resetLine = true →
    step s = .next { s with
      seq := .ready, rx := [], session := none, tx := none, tinit := none, resetLine := false
      trace := s.trace ++ [.reset] }

/-- R265, R257: without a request, a call or reset the block makes no transaction and keeps all its state. That
ROUND_TRIP as an instruction changes nothing in Ready is the model's inference (log 12, DEDUCED), no rule's words. -/
def Obligations.IdleBlockKeepsItsState : Prop :=
  ∀ s : State, s.seq = .ready → s.requests = [] → s.units = [] → s.resetLine = false →
    step s = .next s ∧ exec .roundTrip s = .next s

/-! ## A step runs the instruction that stands next -/

/-- R224, R225, R61: where each instruction of a step stands. A call on the combinational port comes first (the
model's choice, log 5); a request is taken only in Ready, in the host's order; in `RtWrite` the bytes of TX that
decode to a command are that command; when assembly ends the bytes of RX that decode to a response are that
response, or the value in it that the operation interprets (the model's choices, log 8, and log 15 for short values);
every other transaction is ROUND_TRIP's. -/
def Obligations.StepRunsTheInstructionThatStandsNext : Prop :=
  ∀ s : State, s.resetLine = false →
    (∀ u us, s.units = u :: us → step s = exec u.toInstr { s with units := us }) ∧
    (s.units = [] →
      (∀ q qs, s.seq = .ready → s.requests = q :: qs → step s = exec q.toInstr { s with requests := qs }) ∧
      (∀ op b i, s.seq = .busy op .rtWrite → s.tx = some b → decodeOn .sent b = .ok i → step s = exec i s) ∧
      (∀ op b e, s.seq = .busy op .rtWrite → s.tx = some b → decodeOn .sent b = .err e →
        step s = exec .roundTrip s) ∧
      (∀ op, s.seq = .busy op .rtWrite → s.tx = none → step s = exec .roundTrip s) ∧
      (∀ op i, s.seq = .busy op .rtWaitTrail → s.transport.waitAnswer = .timedOut →
        decodeOn .received s.rx = .ok i →
        (op = .poll → step s = exec i s) ∧
        (op = .readBlock → ∀ rest, wrapperIn .success s.rx = some (0xA5 :: rest) →
          step s = exec (.valReadBlockData rest) s) ∧
        (op = .readBlock → (∀ rest, wrapperIn .success s.rx ≠ some (0xA5 :: rest)) → step s = exec i s) ∧
        (op = .authenticate → ∀ v, wrapperIn .error s.rx = some v → step s = exec (.valError v) s) ∧
        (op = .authenticate → wrapperIn .error s.rx = none → step s = exec i s)) ∧
      (∀ op e, s.seq = .busy op .rtWaitTrail → s.transport.waitAnswer = .timedOut →
        decodeOn .received s.rx = .err e → step s = exec .roundTrip s) ∧
      (∀ op, s.seq = .busy op .rtWaitTrail → s.transport.waitAnswer = .ok → step s = exec .roundTrip s) ∧
      (∀ op ph, s.seq = .busy op ph → ph ≠ .rtWrite → ph ≠ .rtWaitTrail → step s = exec .roundTrip s))

/-- Log 6: a word that the decoder reads as an instruction is what the step after `withFetchWord` runs; the decoder's
order of the rows is log 11's choice. -/
def Obligations.PlacedWordIsRunNext : Prop :=
  ∀ (s : State) (nbits w : Nat) (i : Instr), decodeTableWord nbits w = some i →
    (s.withFetchWord nbits w).resetLine = false ∧
    fetch (s.withFetchWord nbits w) = some (i, s.withFetchWord nbits w) ∧
    step (s.withFetchWord nbits w) = exec i (s.withFetchWord nbits w)

/-! ## Encodings -/

/-- R82 to R86, R70: every well-formed wire form is read back from its bytes, each operand at every value. That the
value forms have no lower bound is the model's choice (log 15). -/
def Obligations.DecodeOfEncodeIsTheInstruction : Prop :=
  ∀ (i : Instr) (c : Channel) (b : Bytes), i.wellFormed = true → i.channel = some c → encode i = some b →
    decodeOn c b = .ok i

/-- R91: every word has one meaning where it stands: the bytes the decoder accepts are the encoding of what it
answers, and that is well formed. The decoder's checks are the model's inference (log 11, DEDUCED), its reading of
short values the model's choice (log 15). -/
def Obligations.EncodeOfDecodeIsTheBytes : Prop :=
  ∀ (c : Channel) (b : Bytes) (i : Instr), decodeOn c b = .ok i →
    i.wellFormed = true ∧ i.channel = some c ∧ encode i = some b

/-- R91: no bytes match two of the command rows. -/
def Obligations.CommandRowsDoNotOverlap : Prop :=
  ∀ (b : Bytes) (r r' : FormRow), r ∈ commandRows → r' ∈ commandRows →
    r.matchesAll b = true → r'.matchesAll b = true → r = r'

/-- R80, R82, R83, R85, R86: words written out byte by byte from the spec are, where they stand (R91), the
instructions they stand for. -/
def Obligations.WrittenOutWordsDecode : Prop :=
  decodeOn .sent [0x02, 0x0A, 0x00, 0x3E, 0xDF, 0x7E, 0x01, 0x00, 0x96, 0x03] = .ok .cmdPoll ∧
  decodeOn .sent [0x02, 0x07, 0x00, 0x3E, 0xDF, 0x78, 0x02, 0xA5, 0x04, 0x3D, 0x03] = .ok (.cmdReadBlock 0x04) ∧
  decodeOn .sent [0x02, 0x09, 0x00, 0x3E, 0xDF, 0x78, 0x04, 0xB0, 0x04, 0x01, 0x27, 0x06, 0x03]
    = .ok (.cmdAuthenticate .B 0x01 0x27) ∧
  decodeOn .received [0x02, 0x04, 0x00, 0x3E, 0xFF, 0x01, 0xC4, 0x03] = .ok (.rspSuccess 0x04 0x00 0x3E []) ∧
  decodeOn .errorValue [0xDF, 0x78, 0x04, 0xB0, 0x00, 0x00, 0x08] = .ok (.valError [0xB0, 0x00, 0x00, 0x08])

/-! ## PacketCodec -/

/-- R110: LRC is the XOR of the bytes from `00`; order and pairs do not matter. -/
def Obligations.LrcIsTheXorOfTheBytes : Prop :=
  (∀ (b : Bytes) (s : State),
    exec (.lrc b) s = .next { s with trace := s.trace ++ [.result (.byte (b.foldl (fun acc x => acc ^^^ x) 0))] }) ∧
  lrcOf [] = 0x00 ∧
  (∀ b b' : Bytes, b.Perm b' → lrcOf b = lrcOf b') ∧
  (∀ (x : Byte) (b : Bytes), lrcOf (x :: x :: b) = lrcOf b)

/-- R112 (with R111's bound): ENCODE's frame, its refusal above 253 DATA bytes, and the frames that DECODE finds too
short. -/
def Obligations.EncodeBuildsTheFrame : Prop :=
  ∀ (p i : Byte) (d : Bytes) (s : State),
    (d.length ≤ 253 →
      exec (.encode p i d) s = .next { s with trace := s.trace ++ [.result (.bytes
        ([0x02, BitVec.ofNat 8 (2 + d.length), p, i] ++ d ++
          [(BitVec.ofNat 8 (2 + d.length) :: p :: i :: d).foldl (fun acc x => acc ^^^ x) 0, 0x03]))] }) ∧
    (253 < d.length → exec (.encode p i d) s = .refused .encodeTooLong) ∧
    (d.length < 2 → ∃ b, encodeFrame p i d = some b ∧ b.length = 6 + d.length ∧ decodeFrame b = .err .tooShort)

/-- R113, R114: DECODE's tests in their order, and the frame of a buffer that passes them. -/
def Obligations.DecodeTestsInOrder : Prop :=
  ∀ (b : Bytes) (s : State),
    (b.length < 8 →
      exec (.decode b) s = .next { s with trace := s.trace ++ [.result (.frame (.err .tooShort))] }) ∧
    (8 ≤ b.length → (b[0]? ≠ some 0x02 ∨ b[b.length - 1]? ≠ some 0x03) →
      exec (.decode b) s = .next { s with trace := s.trace ++ [.result (.frame (.err .badBoundary))] }) ∧
    (8 ≤ b.length → b[0]? = some 0x02 → b[b.length - 1]? = some 0x03 →
      b[b.length - 2]? ≠ some (((b.drop 1).take (b.length - 3)).foldl (fun acc x => acc ^^^ x) 0) →
      exec (.decode b) s = .next { s with trace := s.trace ++ [.result (.frame (.err .lrcMismatch))] }) ∧
    (8 ≤ b.length → b[0]? = some 0x02 → b[b.length - 1]? = some 0x03 →
      b[b.length - 2]? = some (((b.drop 1).take (b.length - 3)).foldl (fun acc x => acc ^^^ x) 0) →
      ∃ l p i, b[1]? = some l ∧ b[2]? = some p ∧ b[3]? = some i ∧
        exec (.decode b) s = .next { s with trace := s.trace ++ [.result (.frame (.ok
          { raw := b, lenField := l, pcb := p, ins := i, data := (b.drop 4).take (b.length - 6) }))] })

/-- R116: the round-trip law, with the short frames that DECODE rejects. -/
def Obligations.DecodeOfEncodedFrame : Prop :=
  ∀ (p i : Byte) (d : Bytes), d.length ≤ 253 →
    ∃ b, encodeFrame p i d = some b ∧
      (2 ≤ d.length → ∃ f, decodeFrame b = .ok f ∧ f.pcb = p ∧ f.ins = i ∧ f.data = d ∧ f.raw = b ∧
        f.lenField.toNat = 2 + d.length) ∧
      (d.length < 2 → decodeFrame b = .err .tooShort)

/-- R117: the corruption law for one byte. -/
def Obligations.OneCorruptByteIsDetected : Prop :=
  ∀ (b : Bytes) (f : Frame) (i : Nat) (x : Byte), decodeFrame b = .ok f → i < b.length → b[i]? ≠ some x →
    (1 ≤ i → i ≤ b.length - 2 → decodeFrame (b.set i x) = .err .lrcMismatch) ∧
    (i = 0 ∨ i = b.length - 1 → decodeFrame (b.set i x) = .err .badBoundary)

/-- R118: the limit of the check: whatever is changed between STX and ETX, DECODE accepts the buffer when the changes
XOR to zero. -/
def Obligations.CancellingCorruptionIsNotDetected : Prop :=
  ∀ (b b' : Bytes) (f : Frame), decodeFrame b = .ok f → b'.length = b.length → b'[0]? = b[0]? →
    b'[b.length - 1]? = b[b.length - 1]? →
    (List.zipWith (fun x y => x ^^^ y) b b').foldl (fun acc x => acc ^^^ x) 0 = 0 →
    ∃ f', decodeFrame b' = .ok f'

/-! ## TlvExtractor -/

/-- R130, R131: TLV_FIND answers the leftmost well-formed match, and `None` exactly when there is none. -/
def Obligations.TlvFindIsTheLeftmostMatch : Prop :=
  ∀ (b : Bytes) (t1 t2 : Byte) (s : State),
    ∃ r : Option Bytes,
      exec (.tlvFind b t1 t2) s = .next { s with trace := s.trace ++ [.result (.value r)] } ∧
      (∀ v, r = some v ↔ ∃ i l, TlvAt b t1 t2 i l ∧ (∀ j < i, ∀ l', ¬ TlvAt b t1 t2 j l') ∧
        v = (b.drop (i + 3)).take l.toNat) ∧
      (r = none ↔ ∀ i l, ¬ TlvAt b t1 t2 i l)

/-- R133, R81: what a search of the template payload finds stands behind the marker and ends before the LRC. -/
def Obligations.FoundValueEndsBeforeTheLrc : Prop :=
  ∀ (f : Frame) (t1 t2 : Byte) (v : Bytes), f.isDecoded = true → tlvFind t1 t2 (templatePayload f) = some v →
    ∃ before after : Bytes, f.raw = before ++ v ++ after ∧ 9 ≤ before.length ∧ 2 ≤ after.length

/-! ## CommandBuilder -/

/-- R140 to R143 with the frames of R82 to R85, the LRC by its formula; DECODE rejects the POLL literal. -/
def Obligations.BuildersBuildTheCommandFrames : Prop :=
  ∀ s : State,
    exec .buildPoll s = .next { s with trace := s.trace ++ [.result (.bytes
      [0x02, 0x0A, 0x00, 0x3E, 0xDF, 0x7E, 0x01, 0x00, 0x96, 0x03])] } ∧
    decodeFrame buildPoll = .err .lrcMismatch ∧
    (∀ b, exec (.buildReadBlock b) s = .next { s with trace := s.trace ++ [.result (.bytes
      [0x02, 0x07, 0x00, 0x3E, 0xDF, 0x78, 0x02, 0xA5, b, 0x39 ^^^ b, 0x03])] }) ∧
    (∀ kt kn k0 k1 k2 k3 k4 k5, exec (.buildLoadKey kt kn ⟨k0, k1, k2, k3, k4, k5⟩) s =
      .next { s with trace := s.trace ++ [.result (.bytes
        [0x02, 0x14, 0x00, 0x3E, 0xDF, 0x78, 0x0F, 0xA9, if kt = .A then 0x00 else 0x04, kn,
          0xFF, 0xFF, 0xFF, 0xFF, 0xFF, 0xFF, k0, k1, k2, k3, k4, k5,
          0x2B ^^^ (if kt = .A then 0x00 else 0x04) ^^^ kn ^^^ (k0 ^^^ k1 ^^^ k2 ^^^ k3 ^^^ k4 ^^^ k5), 0x03])] }) ∧
    (∀ kt kn sc, exec (.buildAuthenticate kt kn sc) s = .next { s with trace := s.trace ++ [.result (.bytes
      [0x02, 0x09, 0x00, 0x3E, 0xDF, 0x78, 0x04, 0xB0, if kt = .A then 0x00 else 0x04, kn, sc,
        0x24 ^^^ (if kt = .A then 0x00 else 0x04) ^^^ kn ^^^ sc, 0x03])] })

/-- R144, R289: DECODE accepts what the three TLV builders build, with their DATA, and classifies it Malformed; it
rejects the POLL literal. -/
def Obligations.BuiltFramesDecodeAsMalformed : Prop :=
  decodeFrame buildPoll = .err .lrcMismatch ∧
  (∀ b, ∃ f, decodeFrame (buildReadBlock b) = .ok f ∧ f.pcb = 0x00 ∧ f.ins = 0x3E ∧
    f.data = [0xDF, 0x78, 0x02, 0xA5, b] ∧ classify f = .malformed) ∧
  (∀ kt kn k, ∃ f, decodeFrame (buildLoadKey kt kn k) = .ok f ∧ f.pcb = 0x00 ∧ f.ins = 0x3E ∧
    f.data = [0xDF, 0x78, 0x0F, 0xA9, codeOf kt, kn] ++ List.replicate 6 0xFF ++ k.bytes ∧ classify f = .malformed) ∧
  (∀ kt kn sc, ∃ f, decodeFrame (buildAuthenticate kt kn sc) = .ok f ∧ f.pcb = 0x00 ∧ f.ins = 0x3E ∧
    f.data = [0xDF, 0x78, 0x04, 0xB0, codeOf kt, kn, sc] ∧ classify f = .malformed)

/-! ## ResponseInterpreter -/

/-- R160: CLASSIFY answers from offsets 4 and 5 of the raw frame. -/
def Obligations.ClassifyReadsTheMarker : Prop :=
  ∀ (f : Frame) (s : State), f.isDecoded = true →
    ∃ m0 m1 : Byte, f.raw[4]? = some m0 ∧ f.raw[5]? = some m1 ∧
      exec (.classify f) s = .next { s with trace := s.trace ++ [.result (.template
        (if m0 = 0xFF ∧ m1 = 0x01 then .success else if m0 = 0xFF ∧ m1 = 0x03 then .error else .malformed))] }

/-- R161: the four searches on Success, four times `None` otherwise. -/
def Obligations.CardInfoIsFourSearches : Prop :=
  ∀ (f : Frame) (s : State), f.isDecoded = true →
    (f.raw[4]? = some 0xFF → f.raw[5]? = some 0x01 →
      exec (.parseCardInfo f) s = .next { s with trace := s.trace ++ [.result (.cardInfo
        { type := tlvFind 0xDF 0x16 ((f.raw.drop 6).take (f.raw.length - 8))
          uid  := tlvFind 0xDF 0x0D ((f.raw.drop 6).take (f.raw.length - 8))
          sak  := tlvFind 0xDF 0x6B ((f.raw.drop 6).take (f.raw.length - 8))
          atq  := tlvFind 0xDF 0x15 ((f.raw.drop 6).take (f.raw.length - 8)) })] }) ∧
    (¬ (f.raw[4]? = some 0xFF ∧ f.raw[5]? = some 0x01) →
      exec (.parseCardInfo f) s = .next { s with trace := s.trace ++ [.result (.cardInfo
        { type := none, uid := none, sak := none, atq := none })] })

/-- R162, R254: PARSE_BLOCK_DATA's failures in their order, and the sixteen bytes after the echo. -/
def Obligations.BlockDataTestsInOrder : Prop :=
  ∀ (f : Frame) (s : State), f.isDecoded = true →
    let found := tlvFind 0xDF 0x78 ((f.raw.drop 6).take (f.raw.length - 8))
    let answers := fun r => exec (.parseBlockData f) s = .next { s with trace := s.trace ++ [.result (.blockData r)] }
    (classify f ≠ .success → answers (.err .unexpectedTemplate)) ∧
    (classify f = .success → found = none → answers (.err .missingTag)) ∧
    (∀ v, classify f = .success → found = some v → v.head? ≠ some 0xA5 → answers (.err .commandMismatch)) ∧
    (∀ rest, classify f = .success → found = some (0xA5 :: rest) → rest.length < 16 → answers (.err .shortData)) ∧
    (∀ d more, classify f = .success → found = some (0xA5 :: (d ++ more)) → d.length = 16 → answers (.ok d))

/-- R163, R164: PARSE_ERROR_CODE's failures in their order, and the code at value offset 3 with its message. -/
def Obligations.ErrorCodeTestsInOrder : Prop :=
  ∀ (f : Frame) (s : State), f.isDecoded = true →
    let found := tlvFind 0xDF 0x78 ((f.raw.drop 6).take (f.raw.length - 8))
    let answers := fun r => exec (.parseErrorCode f) s = .next { s with trace := s.trace ++ [.result (.errorCode r)] }
    (classify f ≠ .error → answers (.err .unexpectedTemplate)) ∧
    (classify f = .error → found = none → answers (.err .missingTag)) ∧
    (∀ v, classify f = .error → found = some v → v.length < 4 → answers (.err .missingTag)) ∧
    (∀ v0 v1 v2 code more, classify f = .error → found = some (v0 :: v1 :: v2 :: code :: more) →
      answers (.ok (code, errorMessage code)))

/-- R164, R87: the three messages. -/
def Obligations.ErrorMessagesAreExact : Prop :=
  ∀ (c : Byte) (s : State),
    exec (.errorMessage c) s = .next { s with trace := s.trace ++ [.result (.text
      (if c = 0x08 then "authentication failed (wrong key/sector)"
       else if c = 0x05 then "general operation error" else "unknown error code"))] }

/-- R36: a unit operation may be applied in any state and answers the same in all; all it changes is that its result
has passed the port. ENCODE above its bound is the one call without a result (R111). That CLASSIFY and the parsers
answer on a Frame that DECODE did not make too is the model's choice (log 10). -/
def Obligations.UnitOperationsReadAndWriteNoState : Prop :=
  ∀ u : UnitCall,
    ((∀ p i d, u = .encode p i d → d.length ≤ 253) →
      ∃ r, ∀ s : State, exec u.toInstr s = .next { s with trace := s.trace ++ [.result r] }) ∧
    (∀ p i d, u = .encode p i d → 253 < d.length → ∀ s : State, exec u.toInstr s = .refused .encodeTooLong)

/-! ## Requests -/

/-- R222, R220, R221: acceptance of POLL and READ BLOCK starts their round trip. -/
def Obligations.PollAndReadBlockStartTheirRoundTrip : Prop :=
  ∀ s : State, s.seq = .ready →
    exec .opPoll s = .next { s with
      seq := .busy .poll .rtWrite, rx := [], tinit := some .poll
      tx := some [0x02, 0x0A, 0x00, 0x3E, 0xDF, 0x7E, 0x01, 0x00, 0x96, 0x03]
      trace := s.trace ++ [.accept .poll] } ∧
    ∀ b, exec (.opReadBlock b) s = .next { s with
      seq := .busy .readBlock .rtWrite, rx := [], tinit := some .readBlock
      tx := some [0x02, 0x07, 0x00, 0x3E, 0xDF, 0x78, 0x02, 0xA5, b, 0x39 ^^^ b, 0x03]
      trace := s.trace ++ [.accept (.readBlock b)] }

/-- R191, R193, R34: acceptance of a valid AUTHENTICATE: a fresh session, one notification, and the LOAD KEY round
trip. -/
def Obligations.AuthenticateStartsWithLoadKey : Prop :=
  ∀ (kt : KeyType) (kn sc : Byte) (k : Key) (s : State), s.seq = .ready → kn.toNat ≤ 1 → sc.toNat ≤ 39 →
    ∃ frame, encode (.cmdLoadKey kt kn k) = some frame ∧
      exec (.opAuthenticate kt kn sc k) s = .next { s with
        seq := .busy .authenticate .rtWrite, rx := [], tinit := some .loadKey, tx := some frame
        session := some { keyType := kt, keyNumber := kn, sector := sc, key := k, state := .loadingKey }
        trace := s.trace ++ [.accept (.authenticate kt kn sc k), .notify .idle .loadingKey] }

/-- R192, R199: parameters out of range end the attempt in the step that accepts it, with no transport transaction;
parameters in range go on to the round trip. -/
def Obligations.InvalidParametersEndAtOnce : Prop :=
  ∀ (kt : KeyType) (kn sc : Byte) (k : Key) (s : State), s.seq = .ready →
    ((1 < kn.toNat ∨ 39 < sc.toNat) →
      exec (.opAuthenticate kt kn sc k) s = .next { s with
        seq := .ready, session := none
        trace := s.trace ++ [.accept (.authenticate kt kn sc k), .notify .idle (.failed .invalidParameter),
          .report (.auth (.failed .invalidParameter))] }) ∧
    (kn.toNat ≤ 1 → sc.toNat ≤ 39 →
      ∃ t, exec (.opAuthenticate kt kn sc k) s = .next t ∧ t.seq = .busy .authenticate .rtWrite)

/-- R225: a request presented while SEQ is busy is held behind the others, and nothing else changes. -/
def Obligations.RequestPresentedWhileBusyIsHeld : Prop :=
  ∀ (op : Op) (ph : Phase) (s : State), s.seq = .busy op ph →
    ∀ q : Request, exec q.toInstr s = .next { s with requests := s.requests ++ [q] }

/-- R225, R283, R284: a step taken while SEQ is busy accepts no request and loses none, so no other command comes
between the round trips of an operation. That the step which takes the reset input keeps the held requests too is
the model's choice (log 7). -/
def Obligations.BusyStepTakesNoRequest : Prop :=
  ∀ s t : State, s.seq ≠ .ready → step s = .next t →
    t.requests = s.requests ∧ ∀ es, t.trace = s.trace ++ es → ∀ q, PortEvent.accept q ∉ es

/-! ## Round trips -/

/-- R220, R227, R55, R56: the transactions of a round trip that do not end it, one for each phase and answer; a chunk
that a finite receive buffer cannot hold is refused. -/
def Obligations.RoundTripAdvancesPhaseByPhase : Prop :=
  ∀ (op : Op) (s : State),
    (∀ b, s.seq = .busy op .rtWrite → s.tx = some b → s.transport.writeAnswer = .ok →
      exec .roundTrip s = .next { s with
        seq := .busy op .rtWaitInit
        transport := { s.transport with writes := s.transport.writes.tail, draws := s.transport.draws + 1 }
        trace := s.trace ++ [.write b s.cfg.tWrite .ok] }) ∧
    (∀ t, s.seq = .busy op .rtWaitInit → s.tinit = some t → s.transport.waitAnswer = .ok →
      exec .roundTrip s = .next { s with
        seq := .busy op .rtReadInit
        transport := { s.transport with waits := s.transport.waits.tail, draws := s.transport.draws + 1 }
        trace := s.trace ++ [.wait (.init t) (s.cfg.millis (.init t)) .ok] }) ∧
    (s.seq = .busy op .rtReadInit ∨ s.seq = .busy op .rtReadTrail →
      (∀ cap, s.cfg.rxCapacity = some cap → s.rx.length + s.transport.chunk.length ≤ cap) →
      exec .roundTrip s = .next { s with
        seq := .busy op .rtWaitTrail, rx := s.rx ++ s.transport.chunk
        transport := { s.transport with reads := s.transport.reads.tail, draws := s.transport.draws + 1 }
        trace := s.trace ++ [.read s.transport.chunk] }) ∧
    (s.seq = .busy op .rtReadInit ∨ s.seq = .busy op .rtReadTrail →
      ∀ cap, s.cfg.rxCapacity = some cap → cap < s.rx.length + s.transport.chunk.length →
      exec .roundTrip s = .refused .rxOverflow) ∧
    (s.seq = .busy op .rtWaitTrail → s.transport.waitAnswer = .ok →
      exec .roundTrip s = .next { s with
        seq := .busy op .rtReadTrail
        transport := { s.transport with waits := s.transport.waits.tail, draws := s.transport.draws + 1 }
        trace := s.trace ++ [.wait .trail s.cfg.tTrail .ok] })

/-- R220, R222, R223, R198, R258: a write error or an initial wait that times out ends the operation with its
transport failure; RX is emptied, AUTHENTICATE's session is failed, reported and discarded. -/
def Obligations.TransportFailureEndsTheOperation : Prop :=
  ∀ (op : Op) (s s1 : State) (e : TransportError),
    ((∃ b, s.seq = .busy op .rtWrite ∧ s.tx = some b ∧ s.transport.writeAnswer = .writeError ∧ e = .writeTimeout ∧
        s1 = { s with
          seq := .ready, rx := []
          transport := { s.transport with writes := s.transport.writes.tail, draws := s.transport.draws + 1 }
          trace := s.trace ++ [.write b s.cfg.tWrite .writeError] }) ∨
      (∃ t, s.seq = .busy op .rtWaitInit ∧ s.tinit = some t ∧ s.transport.waitAnswer = .timedOut ∧ e = .readTimeout ∧
        s1 = { s with
          seq := .ready, rx := []
          transport := { s.transport with waits := s.transport.waits.tail, draws := s.transport.draws + 1 }
          trace := s.trace ++ [.wait (.init t) (s.cfg.millis (.init t)) .timedOut] })) →
    (op = .poll → exec .roundTrip s =
      .next { s1 with trace := s1.trace ++ [.report (.poll (.err (.transportFailure e)))] }) ∧
    (op = .readBlock → exec .roundTrip s =
      .next { s1 with trace := s1.trace ++ [.report (.readBlock (.err (.transportFailure e)))] }) ∧
    (∀ ss, op = .authenticate → s.session = some ss → (ss.state = .loadingKey ∨ ss.state = .authenticating) →
      exec .roundTrip s = .next { s1 with
        session := none
        trace := s1.trace ++ [.notify ss.state (.failed (.transportFailure e)),
          .report (.auth (.failed (.transportFailure e)))] })

/-- U3, R23, R24, R25: a read of TX or TINIT before its first write, or of a field of an absent session, faults.
Which reads these are, R220's in `RtWrite`, in `RtWaitInit` and at a completion, is the model's inference (log 1,
DEDUCED). Where SESSION.state is not one that a round trip ends in, the spec gives no completion and the model stops
by a name of its own (log 14). -/
def Obligations.UnwrittenElementsFault : Prop :=
  ∀ (op : Op) (s : State),
    (s.seq = .busy op .rtWrite → s.tx = none → exec .roundTrip s = .fault .txUnwritten) ∧
    (s.seq = .busy op .rtWaitInit → s.tinit = none → exec .roundTrip s = .fault .tinitUnwritten) ∧
    ((s.seq = .busy .authenticate .rtWrite ∧ s.tx ≠ none ∧ s.transport.writeAnswer = .writeError) ∨
      (s.seq = .busy .authenticate .rtWaitInit ∧ s.tinit ≠ none ∧ s.transport.waitAnswer = .timedOut) ∨
      (s.seq = .busy .authenticate .rtWaitTrail ∧ s.transport.waitAnswer = .timedOut) →
      (s.session = none → exec .roundTrip s = .fault .sessionAbsent) ∧
      (∀ ss, s.session = some ss → ss.state ≠ .loadingKey → ss.state ≠ .authenticating →
        exec .roundTrip s = .fault .completionUndefined))

/-- R222, R255, R258: the end of POLL's assembly: a frame failure, or the card's fields with the raw bytes. -/
def Obligations.PollReportsTheResponse : Prop :=
  ∀ s s1 : State, s.seq = .busy .poll .rtWaitTrail → s.transport.waitAnswer = .timedOut →
    s1 = { s with
      seq := .ready, rx := []
      transport := { s.transport with waits := s.transport.waits.tail, draws := s.transport.draws + 1 }
      trace := s.trace ++ [.wait .trail s.cfg.tTrail .timedOut] } →
    (∀ fe, decodeFrame s.rx = .err fe →
      exec .roundTrip s = .next { s1 with trace := s1.trace ++ [.report (.poll (.err (.frameFailure fe)))] }) ∧
    (∀ f, decodeFrame s.rx = .ok f →
      exec .roundTrip s = .next { s1 with trace := s1.trace ++ [.report (.poll (.ok (parseCardInfo f, s.rx)))] })

/-- R223, R255, R258: the end of READ BLOCK's assembly: a frame failure, a response failure, or the block. -/
def Obligations.ReadBlockReportsTheResponse : Prop :=
  ∀ s s1 : State, s.seq = .busy .readBlock .rtWaitTrail → s.transport.waitAnswer = .timedOut →
    s1 = { s with
      seq := .ready, rx := []
      transport := { s.transport with waits := s.transport.waits.tail, draws := s.transport.draws + 1 }
      trace := s.trace ++ [.wait .trail s.cfg.tTrail .timedOut] } →
    (∀ fe, decodeFrame s.rx = .err fe →
      exec .roundTrip s = .next { s1 with trace := s1.trace ++ [.report (.readBlock (.err (.frameFailure fe)))] }) ∧
    (∀ f re, decodeFrame s.rx = .ok f → parseBlockData f = .err re →
      exec .roundTrip s = .next { s1 with
        trace := s1.trace ++ [.report (.readBlock (.err (.responseFailure re)))] }) ∧
    (∀ f d, decodeFrame s.rx = .ok f → parseBlockData f = .ok d →
      exec .roundTrip s = .next { s1 with trace := s1.trace ++ [.report (.readBlock (.ok d))] })

/-- R194, R195, R196: the end of the LOAD KEY round trip, arm by arm; on Success KeyLoaded is passed through and the
AUTHENTICATE frame of the session's fields is the next command. -/
def Obligations.LoadKeyResponseIsCompleted : Prop :=
  ∀ (s s1 : State) (ss : Session), s.seq = .busy .authenticate .rtWaitTrail → s.transport.waitAnswer = .timedOut →
    s.session = some ss → ss.state = .loadingKey →
    s1 = { s with
      rx := []
      transport := { s.transport with waits := s.transport.waits.tail, draws := s.transport.draws + 1 }
      trace := s.trace ++ [.wait .trail s.cfg.tTrail .timedOut] } →
    let fails := fun reason => exec .roundTrip s = .next { s1 with
      seq := .ready, session := none
      trace := s1.trace ++ [.notify .loadingKey (.failed reason), .report (.auth (.failed reason))] }
    (∀ fe, decodeFrame s.rx = .err fe → fails (.protocolError fe)) ∧
    (∀ f, decodeFrame s.rx = .ok f → classify f = .success →
      ∃ frame, encode (.cmdAuthenticate ss.keyType ss.keyNumber ss.sector) = some frame ∧
        exec .roundTrip s = .next { s1 with
          seq := .busy .authenticate .rtWrite, tx := some frame, tinit := some .authenticate
          session := some { ss with state := .authenticating }
          trace := s1.trace ++ [.notify .loadingKey .keyLoaded, .notify .keyLoaded .authenticating] }) ∧
    (∀ f c m, decodeFrame s.rx = .ok f → classify f = .error → parseErrorCode f = .ok (c, m) →
      fails (.deviceError c m)) ∧
    (∀ f re, decodeFrame s.rx = .ok f → classify f = .error → parseErrorCode f = .err re →
      fails (.responseFailure re) ∧ re = .missingTag) ∧
    (∀ f, decodeFrame s.rx = .ok f → classify f = .malformed → fails .unknownTemplate)

/-- R197, R199: the end of the AUTHENTICATE round trip, arm by arm. -/
def Obligations.AuthenticateResponseIsCompleted : Prop :=
  ∀ (s s1 : State) (ss : Session), s.seq = .busy .authenticate .rtWaitTrail → s.transport.waitAnswer = .timedOut →
    s.session = some ss → ss.state = .authenticating →
    s1 = { s with
      rx := [], seq := .ready, session := none
      transport := { s.transport with waits := s.transport.waits.tail, draws := s.transport.draws + 1 }
      trace := s.trace ++ [.wait .trail s.cfg.tTrail .timedOut] } →
    let ends := fun x => exec .roundTrip s = .next { s1 with
      trace := s1.trace ++ [.notify .authenticating x, .report (.auth x)] }
    (∀ fe, decodeFrame s.rx = .err fe → ends (.failed (.protocolError fe))) ∧
    (∀ f, decodeFrame s.rx = .ok f → classify f = .success → ends .authenticated) ∧
    (∀ f c m, decodeFrame s.rx = .ok f → classify f = .error → parseErrorCode f = .ok (c, m) →
      ends (.failed (.deviceError c m))) ∧
    (∀ f re, decodeFrame s.rx = .ok f → classify f = .error → parseErrorCode f = .err re →
      ends (.failed (.responseFailure re)) ∧ re = .missingTag) ∧
    (∀ f, decodeFrame s.rx = .ok f → classify f = .malformed → ends (.failed .unknownTemplate))

/-! ## The wire forms as instructions -/

/-- R24, R55, R82 to R85: CMD_POLL, CMD_READ_BLOCK, CMD_LOAD_KEY and CMD_AUTHENTICATE send their frame where TX holds
it in `RtWrite`; they are refused in every other place (the model's choice, log 3). -/
def Obligations.CommandFramesAreSentFromTx : Prop :=
  ∀ (i : Instr) (frame : Bytes) (s : State), i.channel = some .sent → encode i = some frame →
    (∀ op, s.seq = .busy op .rtWrite → s.tx = some frame → s.transport.writeAnswer = .ok →
      exec i s = .next { s with
        seq := .busy op .rtWaitInit
        transport := { s.transport with writes := s.transport.writes.tail, draws := s.transport.draws + 1 }
        trace := s.trace ++ [.write frame s.cfg.tWrite .ok] }) ∧
    ((∀ op, s.seq ≠ .busy op .rtWrite) ∨ s.tx ≠ some frame → exec i s = .refused .commandNotDue)

/-- R80, R161, R222: RSP_SUCCESS, RSP_ERROR and RSP_MALFORMED where RX holds them at the end of POLL's assembly. -/
def Obligations.ResponseFormsEndPoll : Prop :=
  ∀ (l p i m0 m1 : Byte) (tp : Bytes) (s s1 : State), s.seq = .busy .poll .rtWaitTrail →
    s.transport.waitAnswer = .timedOut →
    s1 = { s with
      seq := .ready, rx := []
      transport := { s.transport with waits := s.transport.waits.tail, draws := s.transport.draws + 1 }
      trace := s.trace ++ [.wait .trail s.cfg.tTrail .timedOut] } →
    (encode (.rspSuccess l p i tp) = some s.rx → exec (.rspSuccess l p i tp) s = .next { s1 with
      trace := s1.trace ++ [.report (.poll (.ok
        ({ type := tlvFind 0xDF 0x16 tp, uid := tlvFind 0xDF 0x0D tp, sak := tlvFind 0xDF 0x6B tp,
           atq := tlvFind 0xDF 0x15 tp }, s.rx)))] }) ∧
    (encode (.rspError l p i tp) = some s.rx → exec (.rspError l p i tp) s = .next { s1 with
      trace := s1.trace ++ [.report (.poll (.ok ({ type := none, uid := none, sak := none, atq := none }, s.rx)))] }) ∧
    ((Instr.rspMalformed l p i m0 m1 tp).wellFormed = true → encode (.rspMalformed l p i m0 m1 tp) = some s.rx →
      exec (.rspMalformed l p i m0 m1 tp) s = .next { s1 with
        trace := s1.trace ++ [.report (.poll (.ok ({ type := none, uid := none, sak := none, atq := none }, s.rx)))] })

/-- R80, R162, R223: the three response forms at the end of READ BLOCK's assembly. -/
def Obligations.ResponseFormsEndReadBlock : Prop :=
  ∀ (l p i m0 m1 : Byte) (tp : Bytes) (s s1 : State), s.seq = .busy .readBlock .rtWaitTrail →
    s.transport.waitAnswer = .timedOut →
    s1 = { s with
      seq := .ready, rx := []
      transport := { s.transport with waits := s.transport.waits.tail, draws := s.transport.draws + 1 }
      trace := s.trace ++ [.wait .trail s.cfg.tTrail .timedOut] } →
    let reports := fun r => Host.Outcome.next { s1 with trace := s1.trace ++ [.report (.readBlock r)] }
    (encode (.rspSuccess l p i tp) = some s.rx →
      (tlvFind 0xDF 0x78 tp = none →
        exec (.rspSuccess l p i tp) s = reports (.err (.responseFailure .missingTag))) ∧
      (∀ v, tlvFind 0xDF 0x78 tp = some v → v.head? ≠ some 0xA5 →
        exec (.rspSuccess l p i tp) s = reports (.err (.responseFailure .commandMismatch))) ∧
      (∀ rest, tlvFind 0xDF 0x78 tp = some (0xA5 :: rest) → rest.length < 16 →
        exec (.rspSuccess l p i tp) s = reports (.err (.responseFailure .shortData))) ∧
      (∀ rest, tlvFind 0xDF 0x78 tp = some (0xA5 :: rest) → 16 ≤ rest.length →
        exec (.rspSuccess l p i tp) s = reports (.ok (rest.take 16)))) ∧
    (encode (.rspError l p i tp) = some s.rx →
      exec (.rspError l p i tp) s = reports (.err (.responseFailure .unexpectedTemplate))) ∧
    ((Instr.rspMalformed l p i m0 m1 tp).wellFormed = true → encode (.rspMalformed l p i m0 m1 tp) = some s.rx →
      exec (.rspMalformed l p i m0 m1 tp) s = reports (.err (.responseFailure .unexpectedTemplate)))

/-- R194, R195, R197: the three response forms at the end of a round trip of AUTHENTICATE. -/
def Obligations.ResponseFormsEndAuthenticateRoundTrips : Prop :=
  ∀ (l p i m0 m1 : Byte) (tp : Bytes) (s s1 : State) (ss : Session), s.seq = .busy .authenticate .rtWaitTrail →
    s.transport.waitAnswer = .timedOut → s.session = some ss → (ss.state = .loadingKey ∨ ss.state = .authenticating) →
    s1 = { s with
      rx := []
      transport := { s.transport with waits := s.transport.waits.tail, draws := s.transport.draws + 1 }
      trace := s.trace ++ [.wait .trail s.cfg.tTrail .timedOut] } →
    let ends := fun x => Host.Outcome.next { s1 with
      seq := .ready, session := none, trace := s1.trace ++ [.notify ss.state x, .report (.auth x)] }
    (encode (.rspSuccess l p i tp) = some s.rx →
      (ss.state = .authenticating → exec (.rspSuccess l p i tp) s = ends .authenticated) ∧
      (ss.state = .loadingKey → ∃ frame,
        encode (.cmdAuthenticate ss.keyType ss.keyNumber ss.sector) = some frame ∧
        exec (.rspSuccess l p i tp) s = .next { s1 with
          seq := .busy .authenticate .rtWrite, tx := some frame, tinit := some .authenticate
          session := some { ss with state := .authenticating }
          trace := s1.trace ++ [.notify .loadingKey .keyLoaded, .notify .keyLoaded .authenticating] })) ∧
    (encode (.rspError l p i tp) = some s.rx →
      (∀ v0 v1 v2 c more, tlvFind 0xDF 0x78 tp = some (v0 :: v1 :: v2 :: c :: more) →
        exec (.rspError l p i tp) s = ends (.failed (.deviceError c (errorMessage c)))) ∧
      ((tlvFind 0xDF 0x78 tp = none ∨ ∃ v, tlvFind 0xDF 0x78 tp = some v ∧ v.length < 4) →
        exec (.rspError l p i tp) s = ends (.failed (.responseFailure .missingTag)))) ∧
    ((Instr.rspMalformed l p i m0 m1 tp).wellFormed = true → encode (.rspMalformed l p i m0 m1 tp) = some s.rx →
      exec (.rspMalformed l p i m0 m1 tp) s = ends (.failed .unknownTemplate))

/-- R86, R162, R223: VAL_READ_BLOCK_DATA in a Success response at the end of READ BLOCK's assembly. That a value of
fewer than 16 bytes after its echo is of this form is the model's choice (log 15); its result is R162's. -/
def Obligations.BlockValueEndsReadBlock : Prop :=
  ∀ (rest : Bytes) (s s1 : State), s.seq = .busy .readBlock .rtWaitTrail → s.transport.waitAnswer = .timedOut →
    wrapperIn .success s.rx = some (0xA5 :: rest) →
    s1 = { s with
      seq := .ready, rx := []
      transport := { s.transport with waits := s.transport.waits.tail, draws := s.transport.draws + 1 }
      trace := s.trace ++ [.wait .trail s.cfg.tTrail .timedOut] } →
    (16 ≤ rest.length → exec (.valReadBlockData rest) s =
      .next { s1 with trace := s1.trace ++ [.report (.readBlock (.ok (rest.take 16)))] }) ∧
    (rest.length < 16 → exec (.valReadBlockData rest) s =
      .next { s1 with trace := s1.trace ++ [.report (.readBlock (.err (.responseFailure .shortData)))] })

/-- R86, R163, R194, R197: VAL_ERROR in an Error response at the end of a round trip of AUTHENTICATE. That a value of
fewer than four bytes is of this form is the model's choice (log 15); its result is R163's. -/
def Obligations.ErrorValueFailsTheAttempt : Prop :=
  ∀ (v : Bytes) (s s1 : State) (ss : Session), s.seq = .busy .authenticate .rtWaitTrail →
    s.transport.waitAnswer = .timedOut → wrapperIn .error s.rx = some v →
    s.session = some ss → (ss.state = .loadingKey ∨ ss.state = .authenticating) →
    s1 = { s with
      seq := .ready, rx := [], session := none
      transport := { s.transport with waits := s.transport.waits.tail, draws := s.transport.draws + 1 }
      trace := s.trace ++ [.wait .trail s.cfg.tTrail .timedOut] } →
    let fails := fun reason => exec (.valError v) s = .next { s1 with
      trace := s1.trace ++ [.notify ss.state (.failed reason), .report (.auth (.failed reason))] }
    (∀ v0 v1 v2 c more, v = v0 :: v1 :: v2 :: c :: more → fails (.deviceError c (errorMessage c))) ∧
    (v.length < 4 → fails (.responseFailure .missingTag))

/-- R31, R58, R257: received forms (RSP_SUCCESS, RSP_ERROR, RSP_MALFORMED, VAL_READ_BLOCK_DATA, VAL_ERROR) that come
while no assembly ends are bytes that the transport holds, behind the earlier ones. -/
def Obligations.BytesOutsideAnAssemblyStayInTheTransport : Prop :=
  ∀ (i : Instr) (c : Channel) (b : Bytes) (s : State), i.channel = some c → c ≠ .sent → encode i = some b →
    ((∀ op, s.seq ≠ .busy op .rtWaitTrail) ∨ s.transport.waitAnswer = .ok) →
    exec i s = .next { s with transport := { s.transport with reads := s.transport.reads ++ [b] } }

/-- R220, R224: in every state the wire form that a step of a round trip runs does what ROUND_TRIP does there: the
forms' own meanings refine it. -/
def Obligations.WireFormsRefineRoundTrip : Prop :=
  ∀ (op : Op) (ph : Phase) (s : State), s.seq = .busy op ph → exec (phaseInstr op ph s) s = exec .roundTrip s

/-! ## Invariants and rules of the whole machine -/

/-- The state after reset meets the invariant and the two ledgers. -/
def Obligations.ResetMeetsTheInvariant : Prop :=
  Invariant State.reset ∧ ReportLedger State.reset ∧ WriteLedger State.reset

/-- R22 to R25, R195, R199: every step keeps the invariant. -/
def Obligations.StepKeepsTheInvariant : Prop :=
  ∀ s t : State, Invariant s → step s = .next t → Invariant t

/-- R250, R253, R227: from a state that meets the invariant a step never stops with an error, and it is refused only
in the two ways R253 names. -/
def Obligations.InvariantStatesStepSafely : Prop :=
  ∀ s : State, Invariant s → StepIsSafe s ∧
    ∀ r, step s = .refused r →
      (r = .encodeTooLong ∧ ∃ p i d us, s.units = .encode p i d :: us ∧ 253 < d.length) ∨
      (r = .rxOverflow ∧ ∃ cap, s.cfg.rxCapacity = some cap ∧ cap < s.rx.length + s.transport.chunk.length)

/-- R57, R226: a request is outstanding exactly while SEQ is busy: every accepted request is reported once. -/
def Obligations.StepKeepsTheReportLedger : Prop :=
  ∀ s t : State, ReportLedger s → step s = .next t → ReportLedger t

/-- R226: a step sends at most one report, as its last output, and only where it leaves SEQ ready; a step that takes
SEQ from busy to ready without reset sends one. -/
def Obligations.OneReportAtTheEndOfAnOperation : Prop :=
  ∀ (s t : State) (es : List PortEvent), step s = .next t → t.trace = s.trace ++ es →
    (∀ r, PortEvent.report r ∈ es → t.seq = .ready ∧
      ∃ before, es = before ++ [.report r] ∧ ∀ r', PortEvent.report r' ∉ before) ∧
    (s.seq ≠ .ready → t.seq = .ready → s.resetLine = false → ∃ r, PortEvent.report r ∈ es)

/-- R201, R220: every step keeps the count of transport writes that the phase and the session say. -/
def Obligations.StepKeepsTheWriteLedger : Prop :=
  ∀ s t : State, Invariant s → WriteLedger s → step s = .next t → WriteLedger t

/-- R201: an attempt has made no write when it is reported for invalid parameters, one when it ends in its LOAD KEY
round trip, two when it ends in its AUTHENTICATE round trip. -/
def Obligations.AttemptWriteCounts : Prop :=
  ∀ (s t : State) (es : List PortEvent) (x : AuthState), WriteLedger s → step s = .next t →
    t.trace = s.trace ++ es → PortEvent.report (.auth x) ∈ es →
    (s.seq = .ready → x = .failed .invalidParameter ∧ attemptWrites t.trace = 0) ∧
    (s.seq ≠ .ready → x ≠ .failed .invalidParameter ∧ ∃ ss, s.session = some ss ∧
      (ss.state = .loadingKey ∧ x ≠ .authenticated ∧ attemptWrites t.trace = 1 ∨
       ss.state = .authenticating ∧ attemptWrites t.trace = 2))

/-- R200, R190, R34: every notified transition is in the spec's relation and changes the state, and every attempt is
reported in a terminal state. -/
def Obligations.SessionTransitionsAreTheSpecs : Prop :=
  ∀ (s t : State) (es : List PortEvent), step s = .next t → t.trace = s.trace ++ es →
    (∀ a b, PortEvent.notify a b ∈ es → allowedTransition a b = true ∧ a ≠ b) ∧
    (∀ x, PortEvent.report (.auth x) ∈ es → isTerminal x = true ∧ t.session = none ∧
      ∃ a, PortEvent.notify a x ∈ es)

/-- R224, R57, R265: a step makes at most one transport transaction, and none while SEQ is ready. -/
def Obligations.OneTransportTransactionAStep : Prop :=
  ∀ (s t : State) (es : List PortEvent), step s = .next t → t.trace = s.trace ++ es →
    (es.filter PortEvent.isTransport).length ≤ 1 ∧ (s.seq = .ready → es.filter PortEvent.isTransport = [])

/-- What has passed a port is never taken back, and the parameters of the block never change (R26). -/
def Obligations.OutputsAndParametersStand : Prop :=
  ∀ s t : State, step s = .next t → (∃ es, t.trace = s.trace ++ es) ∧ t.cfg = s.cfg

/-- R56, R58: only a read takes bytes from the transport, the first ones; the block never flushes them. -/
def Obligations.OnlyReadsTakeBytesFromTheTransport : Prop :=
  ∀ s t : State, step s = .next t →
    t.transport.reads = s.transport.reads ∨
    (∃ op, s.seq = .busy op .rtReadInit ∨ s.seq = .busy op .rtReadTrail) ∧
      t.transport.reads = s.transport.reads.tail ∧ t.trace = s.trace ++ [.read s.transport.chunk]

/-- R193, R196: once the LOAD KEY frame stands in TX, the key of the session is not read again: runs that differ
only in it give the same outputs and the same state but for the key. -/
def Obligations.SessionKeyIsNotReadAgain : Prop :=
  ∀ (s : State) (k : Key), s.seq ≠ .ready → step (s.withKey k) = Answer.map (State.withKey k) (step s)

/-- The block does not read what it has put out: a step from the same state with another past gives the same answer,
behind that past. -/
def Obligations.StepDoesNotReadItsOutputs : Prop :=
  ∀ (s : State) (past : List PortEvent), step (s.withPast past) = Answer.map (State.withPast past) (step s)

/-- R228: a transport that answers every trailing wait with `ok` keeps the block in the assembly for as long as it
does so, whatever it sends: two steps for each chunk lead back to the same phase, with the chunks in RX. -/
def Obligations.AssemblyCanHang : Prop :=
  ∀ (cs : List Bytes) (op : Op) (s : State) (ws : List WaitAnswer) (rs : List Bytes), s.seq = .busy op .rtWaitTrail →
    s.units = [] → s.resetLine = false → s.cfg.rxCapacity = none →
    s.transport.waits = List.replicate cs.length .ok ++ ws → s.transport.reads = cs ++ rs →
    ∃ t, Host.Core.run core (2 * cs.length) s = .next t ∧ t.seq = s.seq ∧ t.rx = s.rx ++ cs.flatten ∧
      t.session = s.session ∧ t.transport.waits = ws ∧ t.transport.reads = rs

/-- R228, R220: from a state that meets the invariant, a trailing wait that times out ends the round trip: the
operation is over, or AUTHENTICATE begins its second round trip. -/
def Obligations.TrailingTimeoutEndsTheRoundTrip : Prop :=
  ∀ (op : Op) (s : State), Invariant s → s.seq = .busy op .rtWaitTrail → s.units = [] → s.resetLine = false →
    s.transport.waitAnswer = .timedOut →
    ∃ t, step s = .next t ∧ t.rx = [] ∧
      (t.seq = .ready ∧ t.session = none ∨
       op = .authenticate ∧ t.seq = .busy .authenticate .rtWrite ∧
         ∃ ss, t.session = some ss ∧ ss.state = .authenticating)
end

