-- ==== Sys2Proof/Laws/Codec.lean ====
section
/-! SUPPORT. The checksum, the frame tests and DECODE, said once: what a buffer must be to decode, and into what. -/

namespace Sys2Proof

/-! ## The checksum -/

theorem foldl_xor_init (x : Byte) (b : Bytes) :
    b.foldl (fun acc y => acc ^^^ y) x = x ^^^ b.foldl (fun acc y => acc ^^^ y) 0x00 := by
  induction b generalizing x with
  | nil => simp
  | cons y b ih =>
    simp only [List.foldl_cons]
    rw [ih (x ^^^ y), ih (0x00 ^^^ y)]
    simp [BitVec.xor_assoc]

@[simp] theorem lrcOf_nil : lrcOf [] = 0 := rfl

@[simp] theorem lrcOf_cons (x : Byte) (b : Bytes) : lrcOf (x :: b) = x ^^^ lrcOf b := by
  unfold lrcOf
  rw [List.foldl_cons, foldl_xor_init]
  simp

@[simp] theorem lrcOf_append (a b : Bytes) : lrcOf (a ++ b) = lrcOf a ^^^ lrcOf b := by
  induction a with
  | nil => simp
  | cons x a ih => simp [ih, BitVec.xor_assoc]

/-- Changing one byte changes the checksum by the difference of the two bytes. -/
theorem lrcOf_set (b : Bytes) (i : Nat) (x y : Byte) (h : b[i]? = some x) :
    lrcOf (b.set i y) = lrcOf b ^^^ x ^^^ y := by
  induction b generalizing i with
  | nil => simp at h
  | cons z b ih =>
    cases i with
    | zero =>
      simp at h
      subst h
      simp only [List.set_cons_zero, lrcOf_cons]
      rw [show z ^^^ lrcOf b ^^^ z ^^^ y = (z ^^^ z) ^^^ (y ^^^ lrcOf b) by ac_rfl]
      simp
    | succ i =>
      simp at h
      simp [ih i h, BitVec.xor_assoc]

/-! ## Buffers by their two ends -/

theorem exists_ends (b : Bytes) (h : 3 ≤ b.length) : ∃ x c y z, b = x :: (c ++ [y, z]) := by
  match b, h with
  | x :: t, h =>
    have ht : t ≠ [] := by rintro rfl; simp at h
    refine ⟨x, t.dropLast.dropLast, ?_⟩
    have h2 : t.dropLast ≠ [] := by
      intro he
      have := congrArg List.length he
      simp at this h
      omega
    refine ⟨t.dropLast.getLast h2, t.getLast ht, ?_⟩
    have e1 := List.dropLast_append_getLast h2
    have e2 := List.dropLast_append_getLast ht
    rw [show ([t.dropLast.getLast h2, t.getLast ht] : Bytes) = [t.dropLast.getLast h2] ++ [t.getLast ht] from rfl,
      ← List.append_assoc, e1, e2]

/-- R113, R114 on a buffer by its ends: `x` first, `y` in the LRC's place, `z` last. -/
theorem frameTest_ends (x y z : Byte) (c : Bytes) :
    frameTest (x :: (c ++ [y, z])) =
      if c.length < 5 then some .tooShort
      else if x ≠ stx ∨ z ≠ etx then some .badBoundary
      else if lrcOf c ≠ y then some .lrcMismatch
      else none := by
  have hn : (x :: (c ++ [y, z])).length = c.length + 3 := by simp
  have h0 : byteAt (x :: (c ++ [y, z])) 0 = x := rfl
  have hl : byteAt (x :: (c ++ [y, z])) (c.length + 3 - 1) = z := by
    simp [byteAt]
  have hm : byteAt (x :: (c ++ [y, z])) (c.length + 3 - 2) = y := by
    simp [byteAt]
  have hs : slice (x :: (c ++ [y, z])) 1 (c.length + 3 - 3) = c := by
    simp [slice]
  have hlt : (c.length + 3 < minFrame) ↔ (c.length < 5) := by simp [minFrame]; omega
  unfold frameTest
  simp only [hn, h0, hl, hm, hs, hlt]

/-! ## Sealed frames -/

@[simp] theorem length_sealFrame (c : Bytes) : (sealFrame c).length = c.length + 3 := by simp [sealFrame]

theorem sealFrame_injective {c d : Bytes} (h : sealFrame c = sealFrame d) : c = d := by
  have hl := congrArg List.length h
  simp at hl
  simp only [sealFrame, List.cons.injEq, true_and] at h
  exact (List.append_inj h hl).1

@[simp] theorem frameTest_sealFrame (c : Bytes) (h : 5 ≤ c.length) : frameTest (sealFrame c) = none := by
  rw [sealFrame, frameTest_ends]
  simp; omega

/-- The frame that DECODE makes of a sealed buffer. -/
def openFrame (l p i : Byte) (data : Bytes) : Frame :=
  { raw := sealFrame (l :: p :: i :: data), lenField := l, pcb := p, ins := i, data := data }

theorem decodeFrame_sealFrame (l p i : Byte) (data : Bytes) (h : 2 ≤ data.length) :
    decodeFrame (sealFrame (l :: p :: i :: data)) = .ok (openFrame l p i data) := by
  have ht := frameTest_sealFrame (l :: p :: i :: data) (by simp; omega)
  unfold decodeFrame
  rw [ht]
  simp [openFrame, sealFrame, byteAt, slice]

/-- R113, R115: DECODE accepts exactly the sealed buffers with at least two DATA bytes. -/
theorem decodeFrame_ok {b : Bytes} {f : Frame} (h : decodeFrame b = .ok f) :
    ∃ l p i data, 2 ≤ data.length ∧ b = sealFrame (l :: p :: i :: data) ∧ f = openFrame l p i data := by
  have hlen : 8 ≤ b.length := by
    by_contra hc
    have : frameTest b = some .tooShort := by
      unfold frameTest
      rw [if_pos (by simp [minFrame]; omega)]
    simp [decodeFrame, this] at h
  obtain ⟨x, c, y, z, rfl⟩ := exists_ends b (by omega)
  have hc : 5 ≤ c.length := by simp at hlen; omega
  have ht : frameTest (x :: (c ++ [y, z])) = none := by
    cases hf : frameTest (x :: (c ++ [y, z])) with
    | none => rfl
    | some e => simp [decodeFrame, hf] at h
  rw [frameTest_ends, if_neg (by omega)] at ht
  split at ht <;> [simp at ht; skip]
  rename_i hxz
  split at ht <;> [simp at ht; skip]
  rename_i hy
  simp only [not_or, not_not] at hxz hy
  obtain ⟨rfl, rfl⟩ := hxz
  subst hy
  match c, hc with
  | l :: p :: i :: data, hc =>
    have hd : 2 ≤ data.length := by simp at hc; omega
    refine ⟨l, p, i, data, hd, rfl, ?_⟩
    have := decodeFrame_sealFrame l p i data hd
    rw [sealFrame] at this
    rw [this] at h
    injection h with h
    exact h.symm

/-- R115: a frame that DECODE returned carries the buffer it was given. -/
theorem raw_of_decodeFrame {b : Bytes} {f : Frame} (h : decodeFrame b = .ok f) : f.raw = b := by
  obtain ⟨l, p, i, data, -, rfl, rfl⟩ := decodeFrame_ok h
  rfl

theorem isDecoded_iff (f : Frame) : f.isDecoded = true ↔ decodeFrame f.raw = .ok f := by
  simp [Frame.isDecoded]

/-- A decoded frame by its parts: the marker and the template payload make up DATA. -/
theorem isDecoded_parts {f : Frame} (h : f.isDecoded = true) :
    ∃ l p i m0 m1 tp, f = openFrame l p i (m0 :: m1 :: tp) := by
  obtain ⟨l, p, i, data, hd, -, rfl⟩ := decodeFrame_ok ((isDecoded_iff f).1 h)
  match data, hd with
  | m0 :: m1 :: tp, _ => exact ⟨l, p, i, m0, m1, tp, rfl⟩

@[simp] theorem templatePayload_openFrame (l p i m0 m1 : Byte) (tp : Bytes) :
    templatePayload (openFrame l p i (m0 :: m1 :: tp)) = tp := by
  simp [templatePayload, openFrame, sealFrame, slice]

@[simp] theorem classify_openFrame (l p i m0 m1 : Byte) (tp : Bytes) :
    classify (openFrame l p i (m0 :: m1 :: tp)) = templateOf m0 m1 := rfl

@[simp] theorem findWrapper_openFrame (l p i m0 m1 : Byte) (tp : Bytes) :
    findWrapper (openFrame l p i (m0 :: m1 :: tp)) = tlvFind 0xDF 0x78 tp := by
  simp [findWrapper]

theorem responseFrame_eq_openFrame (l p i m0 m1 : Byte) (tp : Bytes) :
    responseFrame l p i m0 m1 tp = openFrame l p i (m0 :: m1 :: tp) := rfl

theorem decodeFrame_responseBytes (l p i m0 m1 : Byte) (tp : Bytes) :
    decodeFrame (responseBytes l p i m0 m1 tp) = .ok (responseFrame l p i m0 m1 tp) :=
  decodeFrame_sealFrame l p i (m0 :: m1 :: tp) (by simp)

@[simp] theorem templateOf_success : templateOf 0xFF#8 0x01#8 = .success := rfl
@[simp] theorem templateOf_error : templateOf 0xFF#8 0x03#8 = .error := rfl

theorem templateOf_eq_success {m0 m1 : Byte} : templateOf m0 m1 = .success ↔ m0 = 0xFF ∧ m1 = 0x01 := by
  unfold templateOf
  split <;> [simp_all; skip]
  split <;> simp_all

theorem templateOf_eq_error {m0 m1 : Byte} : templateOf m0 m1 = .error ↔ m0 = 0xFF ∧ m1 = 0x03 := by
  unfold templateOf
  split
  · rename_i h
    obtain ⟨rfl, rfl⟩ := h
    simp
  · split <;> simp_all

/-! ## What the builders build -/

theorem buildReadBlock_eq (b : Byte) :
    buildReadBlock b = [0x02, 0x07, 0x00, 0x3E, 0xDF, 0x78, 0x02, 0xA5, b, 0x39 ^^^ b, 0x03] := by
  simp [buildReadBlock, frameBytes, sealFrame, tlvElement, ← BitVec.xor_assoc]

theorem buildLoadKey_eq (kt : KeyType) (kn : Byte) (k : Key) :
    buildLoadKey kt kn k =
      [0x02, 0x14, 0x00, 0x3E, 0xDF, 0x78, 0x0F, 0xA9, codeOf kt, kn, 0xFF, 0xFF, 0xFF, 0xFF, 0xFF, 0xFF,
        k.k0, k.k1, k.k2, k.k3, k.k4, k.k5, lrcLoadKey (codeOf kt) kn k, 0x03] := by
  simp [buildLoadKey, frameBytes, sealFrame, tlvElement, rfu, Key.bytes, lrcLoadKey, List.replicate]
  simp only [← BitVec.xor_assoc]
  simp

theorem buildAuthenticate_eq (kt : KeyType) (kn sc : Byte) :
    buildAuthenticate kt kn sc =
      [0x02, 0x09, 0x00, 0x3E, 0xDF, 0x78, 0x04, 0xB0, codeOf kt, kn, sc, lrcAuthenticate (codeOf kt) kn sc, 0x03] := by
  simp [buildAuthenticate, frameBytes, sealFrame, tlvElement, lrcAuthenticate, ← BitVec.xor_assoc]

end Sys2Proof
end

