-- ==== Sys2Proof/Laws/Encoding.lean ====
section
/-! SUPPORT. The rows of the opcode table by the bytes they match, and the decoder on each wire form's bytes. -/

namespace Sys2Proof

@[simp] theorem keyTypeOf_codeOf (kt : KeyType) : keyTypeOf (codeOf kt) = some kt := by cases kt <;> rfl

theorem codeOf_keyTypeOf {b : Byte} {kt : KeyType} (h : keyTypeOf b = some kt) : codeOf kt = b := by
  unfold keyTypeOf at h
  split at h
  · rename_i hb
    injection h with h
    subst h hb
    rfl
  · split at h
    · rename_i hb
      injection h with h
      subst h hb
      rfl
    · simp at h

theorem and_ff (x : Byte) : x &&& 0xFF#8 = x := by revert x; decide

theorem codeOf_and_fb (kt : KeyType) : codeOf kt &&& 0xFB#8 = 0x00#8 := by cases kt <;> rfl

/-- R82: what `rowPoll` matches. -/
theorem rowPoll_matches (b : Bytes) : rowPoll.matchesAll b = true ↔
    b = [0x02, 0x0A, 0x00, 0x3E, 0xDF, 0x7E, 0x01, 0x00, 0x96, 0x03] := by
  constructor
  · intro h
    simp only [FormRow.matchesAll, rowPoll, Bool.and_eq_true] at h
    obtain ⟨hl, h⟩ := h
    match b, hl with
    | [b0, b1, b2, b3, b4, b5, b6, b7, b8, b9], _ => simpa [and_ff] using h
  · rintro rfl; rfl

/-- R83: what `rowReadBlock` matches. -/
theorem rowReadBlock_matches (b : Bytes) : rowReadBlock.matchesAll b = true ↔
    ∃ blk lrc, b = [0x02, 0x07, 0x00, 0x3E, 0xDF, 0x78, 0x02, 0xA5, blk, lrc, 0x03] := by
  constructor
  · intro h
    simp only [FormRow.matchesAll, rowReadBlock, Bool.and_eq_true] at h
    obtain ⟨hl, h⟩ := h
    match b, hl with
    | [b0, b1, b2, b3, b4, b5, b6, b7, b8, b9, b10], _ => exact ⟨b8, b9, by simpa [and_ff] using h⟩
  · rintro ⟨blk, lrc, rfl⟩
    simp [FormRow.matchesAll, rowReadBlock]

/-- R84: what `rowLoadKey` matches. -/
theorem rowLoadKey_matches (b : Bytes) : rowLoadKey.matchesAll b = true ↔
    ∃ c kn k0 k1 k2 k3 k4 k5 lrc, c &&& 0xFB#8 = 0x00#8 ∧
      b = [0x02, 0x14, 0x00, 0x3E, 0xDF, 0x78, 0x0F, 0xA9, c, kn, 0xFF, 0xFF, 0xFF, 0xFF, 0xFF, 0xFF,
        k0, k1, k2, k3, k4, k5, lrc, 0x03] := by
  constructor
  · intro h
    simp only [FormRow.matchesAll, rowLoadKey, Bool.and_eq_true] at h
    obtain ⟨hl, h⟩ := h
    match b, hl with
    | [b0, b1, b2, b3, b4, b5, b6, b7, b8, b9, b10, b11, b12, b13, b14, b15, b16, b17, b18, b19, b20, b21, b22, b23], _ =>
      refine ⟨b8, b9, b16, b17, b18, b19, b20, b21, b22, ?_⟩
      simp [and_ff] at h
      simp [h]
  · rintro ⟨c, kn, k0, k1, k2, k3, k4, k5, lrc, hc, rfl⟩
    simp [FormRow.matchesAll, rowLoadKey, hc]

/-- R85: what `rowAuthenticate` matches. -/
theorem rowAuthenticate_matches (b : Bytes) : rowAuthenticate.matchesAll b = true ↔
    ∃ c kn sc lrc, c &&& 0xFB#8 = 0x00#8 ∧
      b = [0x02, 0x09, 0x00, 0x3E, 0xDF, 0x78, 0x04, 0xB0, c, kn, sc, lrc, 0x03] := by
  constructor
  · intro h
    simp only [FormRow.matchesAll, rowAuthenticate, Bool.and_eq_true] at h
    obtain ⟨hl, h⟩ := h
    match b, hl with
    | [b0, b1, b2, b3, b4, b5, b6, b7, b8, b9, b10, b11, b12], _ =>
      refine ⟨b8, b9, b10, b11, ?_⟩
      simp [and_ff] at h
      simp [h]
  · rintro ⟨c, kn, sc, lrc, hc, rfl⟩
    simp [FormRow.matchesAll, rowAuthenticate, hc]

/-- Everything `decodeCommand` can answer with an instruction: four cases, each with its bytes. -/
theorem decodeCommand_cases {b : Bytes} {i : Instr} (h : decodeCommand b = .ok i) :
    (i = .cmdPoll ∧ b = buildPoll) ∨
    (∃ blk, i = .cmdReadBlock blk ∧ b = buildReadBlock blk) ∨
    (∃ kt kn k, i = .cmdLoadKey kt kn k ∧ b = buildLoadKey kt kn k) ∨
    (∃ kt kn sc, i = .cmdAuthenticate kt kn sc ∧ b = buildAuthenticate kt kn sc) := by
  unfold decodeCommand at h
  split at h
  · rename_i hp
    injection h with h
    exact .inl ⟨h.symm, (rowPoll_matches b).1 hp⟩
  split at h
  · rename_i hr
    obtain ⟨blk, lrc, rfl⟩ := (rowReadBlock_matches b).1 hr
    split at h
    · rename_i hl
      injection h with h
      refine .inr (.inl ⟨blk, h.symm, ?_⟩)
      rw [buildReadBlock_eq]
      simp [byteAt, lrcReadBlock] at hl
      simp [hl]
    · simp at h
  split at h
  · rename_i hr
    obtain ⟨c, kn, k0, k1, k2, k3, k4, k5, lrc, -, rfl⟩ := (rowLoadKey_matches b).1 hr
    split at h
    · simp at h
    · rename_i kt hk
      dsimp only at h
      split at h
      · rename_i hl
        injection h with h
        refine .inr (.inr (.inl ⟨kt, kn, ⟨k0, k1, k2, k3, k4, k5⟩, h.symm, ?_⟩))
        have hc := codeOf_keyTypeOf hk
        rw [buildLoadKey_eq]
        simp [byteAt] at hl hc
        simp [hl, hc]
      · simp at h
  split at h
  · rename_i hr
    obtain ⟨c, kn, sc, lrc, -, rfl⟩ := (rowAuthenticate_matches b).1 hr
    split at h
    · simp at h
    · rename_i kt hk
      split at h
      · rename_i hl
        injection h with h
        refine .inr (.inr (.inr ⟨kt, kn, sc, h.symm, ?_⟩))
        have hc := codeOf_keyTypeOf hk
        rw [buildAuthenticate_eq]
        simp [byteAt] at hl hc
        simp [hl, hc]
      · simp at h
  · simp at h

theorem row_not_of_len {r : FormRow} {b : Bytes} (h : b.length ≠ r.pattern.length) : r.matchesAll b = false := by
  simp [FormRow.matchesAll, h]

theorem decodeCommand_buildPoll : decodeCommand buildPoll = .ok .cmdPoll := rfl

theorem decodeCommand_buildReadBlock (b : Byte) : decodeCommand (buildReadBlock b) = .ok (.cmdReadBlock b) := by
  have hm := (rowReadBlock_matches (buildReadBlock b)).2 ⟨b, _, buildReadBlock_eq b⟩
  have hp : rowPoll.matchesAll (buildReadBlock b) = false := row_not_of_len (by simp [buildReadBlock_eq, rowPoll])
  unfold decodeCommand
  rw [hp, hm]
  simp [buildReadBlock_eq, byteAt, lrcReadBlock]

theorem decodeCommand_buildLoadKey (kt : KeyType) (kn : Byte) (k : Key) :
    decodeCommand (buildLoadKey kt kn k) = .ok (.cmdLoadKey kt kn k) := by
  have hm := (rowLoadKey_matches (buildLoadKey kt kn k)).2
    ⟨codeOf kt, kn, k.k0, k.k1, k.k2, k.k3, k.k4, k.k5, _, codeOf_and_fb kt, buildLoadKey_eq kt kn k⟩
  have hp : rowPoll.matchesAll (buildLoadKey kt kn k) = false := row_not_of_len (by simp [buildLoadKey_eq, rowPoll])
  have hr : rowReadBlock.matchesAll (buildLoadKey kt kn k) = false :=
    row_not_of_len (by simp [buildLoadKey_eq, rowReadBlock])
  unfold decodeCommand
  rw [hp, hr, hm]
  simp [buildLoadKey_eq, byteAt]

theorem decodeCommand_buildAuthenticate (kt : KeyType) (kn sc : Byte) :
    decodeCommand (buildAuthenticate kt kn sc) = .ok (.cmdAuthenticate kt kn sc) := by
  have hm := (rowAuthenticate_matches (buildAuthenticate kt kn sc)).2
    ⟨codeOf kt, kn, sc, _, codeOf_and_fb kt, buildAuthenticate_eq kt kn sc⟩
  have hp : rowPoll.matchesAll (buildAuthenticate kt kn sc) = false :=
    row_not_of_len (by simp [buildAuthenticate_eq, rowPoll])
  have hr : rowReadBlock.matchesAll (buildAuthenticate kt kn sc) = false :=
    row_not_of_len (by simp [buildAuthenticate_eq, rowReadBlock])
  have hk : rowLoadKey.matchesAll (buildAuthenticate kt kn sc) = false :=
    row_not_of_len (by simp [buildAuthenticate_eq, rowLoadKey])
  unfold decodeCommand
  rw [hp, hr, hk, hm]
  simp [buildAuthenticate_eq, byteAt]

/-- Everything `decodeResponse` can answer with an instruction: the bytes decode, and the marker names the form. -/
theorem decodeResponse_cases {b : Bytes} {i : Instr} (h : decodeResponse b = .ok i) :
    ∃ l p n m0 m1 tp, b = responseBytes l p n m0 m1 tp ∧ decodeFrame b = .ok (responseFrame l p n m0 m1 tp) ∧
      (templateOf m0 m1 = .success ∧ i = .rspSuccess l p n tp ∨
       templateOf m0 m1 = .error ∧ i = .rspError l p n tp ∨
       templateOf m0 m1 = .malformed ∧ i = .rspMalformed l p n m0 m1 tp) := by
  unfold decodeResponse at h
  cases hd : decodeFrame b with
  | err e => simp [hd] at h
  | ok f =>
    obtain ⟨l, p, n, data, hlen, rfl, rfl⟩ := decodeFrame_ok hd
    match data, hlen with
    | m0 :: m1 :: tp, _ =>
      refine ⟨l, p, n, m0, m1, tp, rfl, rfl, ?_⟩
      rw [hd] at h
      simp only [classify_openFrame, templatePayload_openFrame] at h
      cases ht : templateOf m0 m1 <;> rw [ht] at h <;> injection h with h <;> subst h
      · exact .inl ⟨rfl, rfl⟩
      · exact .inr (.inl ⟨rfl, rfl⟩)
      · exact .inr (.inr ⟨rfl, rfl⟩)

theorem decodeResponse_responseBytes (l p n m0 m1 : Byte) (tp : Bytes) :
    decodeResponse (responseBytes l p n m0 m1 tp) = .ok
      (match templateOf m0 m1 with
       | .success   => .rspSuccess l p n tp
       | .error     => .rspError l p n tp
       | .malformed => .rspMalformed l p n m0 m1 tp) := by
  unfold decodeResponse
  rw [decodeFrame_responseBytes, responseFrame_eq_openFrame]
  simp only [classify_openFrame, templatePayload_openFrame]
  cases templateOf m0 m1 <;> rfl

theorem toNat_ofNat_of_le {n : Nat} (h : n ≤ 255) : (BitVec.ofNat 8 n).toNat = n := by
  simp; omega

/-- A word of the opcode table loses no byte on the way to the decoder. -/
theorem wordBytes_foldr (b : Bytes) :
    wordBytes b.length (b.foldr (fun x acc => x.toNat + 256 * acc) 0) = b := by
  induction b with
  | nil => rfl
  | cons x b ih =>
    have hx := x.isLt
    simp only [List.length_cons, List.foldr_cons, wordBytes]
    congr 1
    · apply BitVec.eq_of_toNat_eq
      simpa using hx
    · rw [show (x.toNat + 256 * List.foldr (fun x acc => x.toNat + 256 * acc) 0 b) / 256
          = List.foldr (fun x acc => x.toNat + 256 * acc) 0 b by omega]
      exact ih

end Sys2Proof
end

