-- ==== Sys2Proof/Laws/State.lean ====
section
/-! SUPPORT. One lemma for each field of State after each named update: no later proof unfolds a record update. -/

namespace Sys2Proof.Machine

@[simp] theorem State.emit_seq (e : PortEvent) (s : State) : (s.emit e).seq = s.seq := rfl
@[simp] theorem State.emit_rx (e : PortEvent) (s : State) : (s.emit e).rx = s.rx := rfl
@[simp] theorem State.emit_session (e : PortEvent) (s : State) : (s.emit e).session = s.session := rfl
@[simp] theorem State.emit_tx (e : PortEvent) (s : State) : (s.emit e).tx = s.tx := rfl
@[simp] theorem State.emit_tinit (e : PortEvent) (s : State) : (s.emit e).tinit = s.tinit := rfl
@[simp] theorem State.emit_cfg (e : PortEvent) (s : State) : (s.emit e).cfg = s.cfg := rfl
@[simp] theorem State.emit_transport (e : PortEvent) (s : State) : (s.emit e).transport = s.transport := rfl
@[simp] theorem State.emit_requests (e : PortEvent) (s : State) : (s.emit e).requests = s.requests := rfl
@[simp] theorem State.emit_units (e : PortEvent) (s : State) : (s.emit e).units = s.units := rfl
@[simp] theorem State.emit_resetLine (e : PortEvent) (s : State) : (s.emit e).resetLine = s.resetLine := rfl
@[simp] theorem State.emit_trace (e : PortEvent) (s : State) : (s.emit e).trace = s.trace ++ [e] := rfl

@[simp] theorem State.giveResult_seq (r : UnitResult) (s : State) : (s.giveResult r).seq = s.seq := rfl
@[simp] theorem State.giveResult_rx (r : UnitResult) (s : State) : (s.giveResult r).rx = s.rx := rfl
@[simp] theorem State.giveResult_session (r : UnitResult) (s : State) : (s.giveResult r).session = s.session := rfl
@[simp] theorem State.giveResult_tx (r : UnitResult) (s : State) : (s.giveResult r).tx = s.tx := rfl
@[simp] theorem State.giveResult_tinit (r : UnitResult) (s : State) : (s.giveResult r).tinit = s.tinit := rfl
@[simp] theorem State.giveResult_cfg (r : UnitResult) (s : State) : (s.giveResult r).cfg = s.cfg := rfl
@[simp] theorem State.giveResult_transport (r : UnitResult) (s : State) : (s.giveResult r).transport = s.transport := rfl
@[simp] theorem State.giveResult_requests (r : UnitResult) (s : State) : (s.giveResult r).requests = s.requests := rfl
@[simp] theorem State.giveResult_units (r : UnitResult) (s : State) : (s.giveResult r).units = s.units := rfl
@[simp] theorem State.giveResult_resetLine (r : UnitResult) (s : State) : (s.giveResult r).resetLine = s.resetLine := rfl
@[simp] theorem State.giveResult_trace (r : UnitResult) (s : State) : (s.giveResult r).trace = s.trace ++ [.result r] := rfl

@[simp] theorem State.setAuth_seq (ss : Session) (x : AuthState) (s : State) : (s.setAuth ss x).seq = s.seq := rfl
@[simp] theorem State.setAuth_rx (ss : Session) (x : AuthState) (s : State) : (s.setAuth ss x).rx = s.rx := rfl
@[simp] theorem State.setAuth_session (ss : Session) (x : AuthState) (s : State) : (s.setAuth ss x).session = some { ss with state := x } := rfl
@[simp] theorem State.setAuth_tx (ss : Session) (x : AuthState) (s : State) : (s.setAuth ss x).tx = s.tx := rfl
@[simp] theorem State.setAuth_tinit (ss : Session) (x : AuthState) (s : State) : (s.setAuth ss x).tinit = s.tinit := rfl
@[simp] theorem State.setAuth_cfg (ss : Session) (x : AuthState) (s : State) : (s.setAuth ss x).cfg = s.cfg := rfl
@[simp] theorem State.setAuth_transport (ss : Session) (x : AuthState) (s : State) : (s.setAuth ss x).transport = s.transport := rfl
@[simp] theorem State.setAuth_requests (ss : Session) (x : AuthState) (s : State) : (s.setAuth ss x).requests = s.requests := rfl
@[simp] theorem State.setAuth_units (ss : Session) (x : AuthState) (s : State) : (s.setAuth ss x).units = s.units := rfl
@[simp] theorem State.setAuth_resetLine (ss : Session) (x : AuthState) (s : State) : (s.setAuth ss x).resetLine = s.resetLine := rfl
@[simp] theorem State.setAuth_trace (ss : Session) (x : AuthState) (s : State) : (s.setAuth ss x).trace = s.trace ++ notification ss.state x := rfl

@[simp] theorem State.endWithReport_seq (r : Report) (s : State) : (s.endWithReport r).seq = .ready := rfl
@[simp] theorem State.endWithReport_rx (r : Report) (s : State) : (s.endWithReport r).rx = s.rx := rfl
@[simp] theorem State.endWithReport_session (r : Report) (s : State) : (s.endWithReport r).session = s.session := rfl
@[simp] theorem State.endWithReport_tx (r : Report) (s : State) : (s.endWithReport r).tx = s.tx := rfl
@[simp] theorem State.endWithReport_tinit (r : Report) (s : State) : (s.endWithReport r).tinit = s.tinit := rfl
@[simp] theorem State.endWithReport_cfg (r : Report) (s : State) : (s.endWithReport r).cfg = s.cfg := rfl
@[simp] theorem State.endWithReport_transport (r : Report) (s : State) : (s.endWithReport r).transport = s.transport := rfl
@[simp] theorem State.endWithReport_requests (r : Report) (s : State) : (s.endWithReport r).requests = s.requests := rfl
@[simp] theorem State.endWithReport_units (r : Report) (s : State) : (s.endWithReport r).units = s.units := rfl
@[simp] theorem State.endWithReport_resetLine (r : Report) (s : State) : (s.endWithReport r).resetLine = s.resetLine := rfl
@[simp] theorem State.endWithReport_trace (r : Report) (s : State) : (s.endWithReport r).trace = s.trace ++ [.report r] := rfl

@[simp] theorem State.endAuth_seq (ss : Session) (x : AuthState) (s : State) : (s.endAuth ss x).seq = .ready := rfl
@[simp] theorem State.endAuth_rx (ss : Session) (x : AuthState) (s : State) : (s.endAuth ss x).rx = s.rx := rfl
@[simp] theorem State.endAuth_session (ss : Session) (x : AuthState) (s : State) : (s.endAuth ss x).session = none := rfl
@[simp] theorem State.endAuth_tx (ss : Session) (x : AuthState) (s : State) : (s.endAuth ss x).tx = s.tx := rfl
@[simp] theorem State.endAuth_tinit (ss : Session) (x : AuthState) (s : State) : (s.endAuth ss x).tinit = s.tinit := rfl
@[simp] theorem State.endAuth_cfg (ss : Session) (x : AuthState) (s : State) : (s.endAuth ss x).cfg = s.cfg := rfl
@[simp] theorem State.endAuth_transport (ss : Session) (x : AuthState) (s : State) : (s.endAuth ss x).transport = s.transport := rfl
@[simp] theorem State.endAuth_requests (ss : Session) (x : AuthState) (s : State) : (s.endAuth ss x).requests = s.requests := rfl
@[simp] theorem State.endAuth_units (ss : Session) (x : AuthState) (s : State) : (s.endAuth ss x).units = s.units := rfl
@[simp] theorem State.endAuth_resetLine (ss : Session) (x : AuthState) (s : State) : (s.endAuth ss x).resetLine = s.resetLine := rfl
@[simp] theorem State.endAuth_trace (ss : Session) (x : AuthState) (s : State) : (s.endAuth ss x).trace = s.trace ++ notification ss.state x ++ [.report (.auth x)] := rfl

@[simp] theorem State.doWrite_seq (b : Bytes) (s : State) : (s.doWrite b).seq = s.seq := rfl
@[simp] theorem State.doWrite_rx (b : Bytes) (s : State) : (s.doWrite b).rx = s.rx := rfl
@[simp] theorem State.doWrite_session (b : Bytes) (s : State) : (s.doWrite b).session = s.session := rfl
@[simp] theorem State.doWrite_tx (b : Bytes) (s : State) : (s.doWrite b).tx = s.tx := rfl
@[simp] theorem State.doWrite_tinit (b : Bytes) (s : State) : (s.doWrite b).tinit = s.tinit := rfl
@[simp] theorem State.doWrite_cfg (b : Bytes) (s : State) : (s.doWrite b).cfg = s.cfg := rfl
@[simp] theorem State.doWrite_transport (b : Bytes) (s : State) : (s.doWrite b).transport = { s.transport with writes := s.transport.writes.tail, draws := s.transport.draws + 1 } := rfl
@[simp] theorem State.doWrite_requests (b : Bytes) (s : State) : (s.doWrite b).requests = s.requests := rfl
@[simp] theorem State.doWrite_units (b : Bytes) (s : State) : (s.doWrite b).units = s.units := rfl
@[simp] theorem State.doWrite_resetLine (b : Bytes) (s : State) : (s.doWrite b).resetLine = s.resetLine := rfl
@[simp] theorem State.doWrite_trace (b : Bytes) (s : State) : (s.doWrite b).trace = s.trace ++ [.write b s.cfg.tWrite s.transport.writeAnswer] := rfl

@[simp] theorem State.doWait_seq (t : Timeout) (s : State) : (s.doWait t).seq = s.seq := rfl
@[simp] theorem State.doWait_rx (t : Timeout) (s : State) : (s.doWait t).rx = s.rx := rfl
@[simp] theorem State.doWait_session (t : Timeout) (s : State) : (s.doWait t).session = s.session := rfl
@[simp] theorem State.doWait_tx (t : Timeout) (s : State) : (s.doWait t).tx = s.tx := rfl
@[simp] theorem State.doWait_tinit (t : Timeout) (s : State) : (s.doWait t).tinit = s.tinit := rfl
@[simp] theorem State.doWait_cfg (t : Timeout) (s : State) : (s.doWait t).cfg = s.cfg := rfl
@[simp] theorem State.doWait_transport (t : Timeout) (s : State) : (s.doWait t).transport = { s.transport with waits := s.transport.waits.tail, draws := s.transport.draws + 1 } := rfl
@[simp] theorem State.doWait_requests (t : Timeout) (s : State) : (s.doWait t).requests = s.requests := rfl
@[simp] theorem State.doWait_units (t : Timeout) (s : State) : (s.doWait t).units = s.units := rfl
@[simp] theorem State.doWait_resetLine (t : Timeout) (s : State) : (s.doWait t).resetLine = s.resetLine := rfl
@[simp] theorem State.doWait_trace (t : Timeout) (s : State) : (s.doWait t).trace = s.trace ++ [.wait t (s.cfg.millis t) s.transport.waitAnswer] := rfl

@[simp] theorem State.doRead_seq (s : State) : s.doRead.seq = s.seq := rfl
@[simp] theorem State.doRead_rx (s : State) : s.doRead.rx = s.rx := rfl
@[simp] theorem State.doRead_session (s : State) : s.doRead.session = s.session := rfl
@[simp] theorem State.doRead_tx (s : State) : s.doRead.tx = s.tx := rfl
@[simp] theorem State.doRead_tinit (s : State) : s.doRead.tinit = s.tinit := rfl
@[simp] theorem State.doRead_cfg (s : State) : s.doRead.cfg = s.cfg := rfl
@[simp] theorem State.doRead_transport (s : State) : s.doRead.transport = { s.transport with reads := s.transport.reads.tail, draws := s.transport.draws + 1 } := rfl
@[simp] theorem State.doRead_requests (s : State) : s.doRead.requests = s.requests := rfl
@[simp] theorem State.doRead_units (s : State) : s.doRead.units = s.units := rfl
@[simp] theorem State.doRead_resetLine (s : State) : s.doRead.resetLine = s.resetLine := rfl
@[simp] theorem State.doRead_trace (s : State) : s.doRead.trace = s.trace ++ [.read s.transport.chunk] := rfl

@[simp] theorem State.heldByTransport_seq (b : Bytes) (s : State) : (s.heldByTransport b).seq = s.seq := rfl
@[simp] theorem State.heldByTransport_rx (b : Bytes) (s : State) : (s.heldByTransport b).rx = s.rx := rfl
@[simp] theorem State.heldByTransport_session (b : Bytes) (s : State) : (s.heldByTransport b).session = s.session := rfl
@[simp] theorem State.heldByTransport_tx (b : Bytes) (s : State) : (s.heldByTransport b).tx = s.tx := rfl
@[simp] theorem State.heldByTransport_tinit (b : Bytes) (s : State) : (s.heldByTransport b).tinit = s.tinit := rfl
@[simp] theorem State.heldByTransport_cfg (b : Bytes) (s : State) : (s.heldByTransport b).cfg = s.cfg := rfl
@[simp] theorem State.heldByTransport_transport (b : Bytes) (s : State) : (s.heldByTransport b).transport = { s.transport with reads := s.transport.reads ++ [b] } := rfl
@[simp] theorem State.heldByTransport_requests (b : Bytes) (s : State) : (s.heldByTransport b).requests = s.requests := rfl
@[simp] theorem State.heldByTransport_units (b : Bytes) (s : State) : (s.heldByTransport b).units = s.units := rfl
@[simp] theorem State.heldByTransport_resetLine (b : Bytes) (s : State) : (s.heldByTransport b).resetLine = s.resetLine := rfl
@[simp] theorem State.heldByTransport_trace (b : Bytes) (s : State) : (s.heldByTransport b).trace = s.trace := rfl

@[simp] theorem State.startRoundTrip_seq (b : Bytes) (t : InitWait) (op : Op) (s : State) : (s.startRoundTrip b t op).seq = .busy op .rtWrite := rfl
@[simp] theorem State.startRoundTrip_rx (b : Bytes) (t : InitWait) (op : Op) (s : State) : (s.startRoundTrip b t op).rx = [] := rfl
@[simp] theorem State.startRoundTrip_session (b : Bytes) (t : InitWait) (op : Op) (s : State) : (s.startRoundTrip b t op).session = s.session := rfl
@[simp] theorem State.startRoundTrip_tx (b : Bytes) (t : InitWait) (op : Op) (s : State) : (s.startRoundTrip b t op).tx = some b := rfl
@[simp] theorem State.startRoundTrip_tinit (b : Bytes) (t : InitWait) (op : Op) (s : State) : (s.startRoundTrip b t op).tinit = some t := rfl
@[simp] theorem State.startRoundTrip_cfg (b : Bytes) (t : InitWait) (op : Op) (s : State) : (s.startRoundTrip b t op).cfg = s.cfg := rfl
@[simp] theorem State.startRoundTrip_transport (b : Bytes) (t : InitWait) (op : Op) (s : State) : (s.startRoundTrip b t op).transport = s.transport := rfl
@[simp] theorem State.startRoundTrip_requests (b : Bytes) (t : InitWait) (op : Op) (s : State) : (s.startRoundTrip b t op).requests = s.requests := rfl
@[simp] theorem State.startRoundTrip_units (b : Bytes) (t : InitWait) (op : Op) (s : State) : (s.startRoundTrip b t op).units = s.units := rfl
@[simp] theorem State.startRoundTrip_resetLine (b : Bytes) (t : InitWait) (op : Op) (s : State) : (s.startRoundTrip b t op).resetLine = s.resetLine := rfl
@[simp] theorem State.startRoundTrip_trace (b : Bytes) (t : InitWait) (op : Op) (s : State) : (s.startRoundTrip b t op).trace = s.trace := rfl

@[simp] theorem State.toPhase_seq (op : Op) (ph : Phase) (s : State) : (s.toPhase op ph).seq = .busy op ph := rfl
@[simp] theorem State.toPhase_rx (op : Op) (ph : Phase) (s : State) : (s.toPhase op ph).rx = s.rx := rfl
@[simp] theorem State.toPhase_session (op : Op) (ph : Phase) (s : State) : (s.toPhase op ph).session = s.session := rfl
@[simp] theorem State.toPhase_tx (op : Op) (ph : Phase) (s : State) : (s.toPhase op ph).tx = s.tx := rfl
@[simp] theorem State.toPhase_tinit (op : Op) (ph : Phase) (s : State) : (s.toPhase op ph).tinit = s.tinit := rfl
@[simp] theorem State.toPhase_cfg (op : Op) (ph : Phase) (s : State) : (s.toPhase op ph).cfg = s.cfg := rfl
@[simp] theorem State.toPhase_transport (op : Op) (ph : Phase) (s : State) : (s.toPhase op ph).transport = s.transport := rfl
@[simp] theorem State.toPhase_requests (op : Op) (ph : Phase) (s : State) : (s.toPhase op ph).requests = s.requests := rfl
@[simp] theorem State.toPhase_units (op : Op) (ph : Phase) (s : State) : (s.toPhase op ph).units = s.units := rfl
@[simp] theorem State.toPhase_resetLine (op : Op) (ph : Phase) (s : State) : (s.toPhase op ph).resetLine = s.resetLine := rfl
@[simp] theorem State.toPhase_trace (op : Op) (ph : Phase) (s : State) : (s.toPhase op ph).trace = s.trace := rfl

@[simp] theorem State.clearRx_seq (s : State) : s.clearRx.seq = s.seq := rfl
@[simp] theorem State.clearRx_rx (s : State) : s.clearRx.rx = [] := rfl
@[simp] theorem State.clearRx_session (s : State) : s.clearRx.session = s.session := rfl
@[simp] theorem State.clearRx_tx (s : State) : s.clearRx.tx = s.tx := rfl
@[simp] theorem State.clearRx_tinit (s : State) : s.clearRx.tinit = s.tinit := rfl
@[simp] theorem State.clearRx_cfg (s : State) : s.clearRx.cfg = s.cfg := rfl
@[simp] theorem State.clearRx_transport (s : State) : s.clearRx.transport = s.transport := rfl
@[simp] theorem State.clearRx_requests (s : State) : s.clearRx.requests = s.requests := rfl
@[simp] theorem State.clearRx_units (s : State) : s.clearRx.units = s.units := rfl
@[simp] theorem State.clearRx_resetLine (s : State) : s.clearRx.resetLine = s.resetLine := rfl
@[simp] theorem State.clearRx_trace (s : State) : s.clearRx.trace = s.trace := rfl

@[simp] theorem State.hold_seq (q : Request) (s : State) : (s.hold q).seq = s.seq := rfl
@[simp] theorem State.hold_rx (q : Request) (s : State) : (s.hold q).rx = s.rx := rfl
@[simp] theorem State.hold_session (q : Request) (s : State) : (s.hold q).session = s.session := rfl
@[simp] theorem State.hold_tx (q : Request) (s : State) : (s.hold q).tx = s.tx := rfl
@[simp] theorem State.hold_tinit (q : Request) (s : State) : (s.hold q).tinit = s.tinit := rfl
@[simp] theorem State.hold_cfg (q : Request) (s : State) : (s.hold q).cfg = s.cfg := rfl
@[simp] theorem State.hold_transport (q : Request) (s : State) : (s.hold q).transport = s.transport := rfl
@[simp] theorem State.hold_requests (q : Request) (s : State) : (s.hold q).requests = s.requests ++ [q] := rfl
@[simp] theorem State.hold_units (q : Request) (s : State) : (s.hold q).units = s.units := rfl
@[simp] theorem State.hold_resetLine (q : Request) (s : State) : (s.hold q).resetLine = s.resetLine := rfl
@[simp] theorem State.hold_trace (q : Request) (s : State) : (s.hold q).trace = s.trace := rfl

@[simp] theorem State.abandon_seq (s : State) : s.abandon.seq = .ready := rfl
@[simp] theorem State.abandon_rx (s : State) : s.abandon.rx = [] := rfl
@[simp] theorem State.abandon_session (s : State) : s.abandon.session = none := rfl
@[simp] theorem State.abandon_tx (s : State) : s.abandon.tx = none := rfl
@[simp] theorem State.abandon_tinit (s : State) : s.abandon.tinit = none := rfl
@[simp] theorem State.abandon_cfg (s : State) : s.abandon.cfg = s.cfg := rfl
@[simp] theorem State.abandon_transport (s : State) : s.abandon.transport = s.transport := rfl
@[simp] theorem State.abandon_requests (s : State) : s.abandon.requests = s.requests := rfl
@[simp] theorem State.abandon_units (s : State) : s.abandon.units = s.units := rfl
@[simp] theorem State.abandon_resetLine (s : State) : s.abandon.resetLine = false := rfl
@[simp] theorem State.abandon_trace (s : State) : s.abandon.trace = s.trace ++ [.reset] := rfl

@[simp] theorem State.endAssembly_seq (s : State) : s.endAssembly.seq = s.seq := rfl
@[simp] theorem State.endAssembly_rx (s : State) : s.endAssembly.rx = [] := rfl
@[simp] theorem State.endAssembly_session (s : State) : s.endAssembly.session = s.session := rfl
@[simp] theorem State.endAssembly_tx (s : State) : s.endAssembly.tx = s.tx := rfl
@[simp] theorem State.endAssembly_tinit (s : State) : s.endAssembly.tinit = s.tinit := rfl
@[simp] theorem State.endAssembly_cfg (s : State) : s.endAssembly.cfg = s.cfg := rfl
@[simp] theorem State.endAssembly_transport (s : State) : s.endAssembly.transport = { s.transport with waits := s.transport.waits.tail, draws := s.transport.draws + 1 } := rfl
@[simp] theorem State.endAssembly_requests (s : State) : s.endAssembly.requests = s.requests := rfl
@[simp] theorem State.endAssembly_units (s : State) : s.endAssembly.units = s.units := rfl
@[simp] theorem State.endAssembly_resetLine (s : State) : s.endAssembly.resetLine = s.resetLine := rfl
@[simp] theorem State.endAssembly_trace (s : State) : s.endAssembly.trace = s.trace ++ [.wait .trail (s.cfg.millis .trail) s.transport.waitAnswer] := rfl

@[simp] theorem notification_same (x : AuthState) : notification x x = [] := by simp [notification]

theorem notification_change {old new : AuthState} (h : new ≠ old) : notification old new = [.notify old new] := by
  simp [notification, h]

end Sys2Proof.Machine
end

