-- ==== Sys2Proof/Laws/Ops.lean ====
section
/-! SUPPORT. Everything a shared operation of the sequencer can answer, said once for each. -/

namespace Sys2Proof.Machine

/-- R220: the session is in one of the two states in which a round trip of AUTHENTICATE can end. -/
def InRoundTrip (ss : Session) : Prop := ss.state = .loadingKey ∨ ss.state = .authenticating

theorem inAttempt_eq {s : State} {ss : Session} (k : Session → Answer) (hs : s.session = some ss)
    (hr : InRoundTrip ss) : s.inAttempt k = k ss := by
  unfold State.inAttempt
  rw [hs]
  rcases hr with h | h <;> simp [h]

theorem inAttempt_cases (s : State) (k : Session → Answer) :
    (∃ ss, s.session = some ss ∧ InRoundTrip ss ∧ s.inAttempt k = k ss) ∨
    ((∀ ss, s.session = some ss → ¬ InRoundTrip ss) ∧
      (s.inAttempt k = .fault .sessionAbsent ∨ s.inAttempt k = .fault .completionUndefined)) := by
  cases hs : s.session with
  | none => exact .inr ⟨by simp, .inl (by simp [State.inAttempt, hs])⟩
  | some ss =>
    by_cases hr : InRoundTrip ss
    · exact .inl ⟨ss, rfl, hr, inAttempt_eq k hs hr⟩
    · refine .inr ⟨by simpa using hr, .inr ?_⟩
      simp only [InRoundTrip, not_or] at hr
      unfold State.inAttempt
      rw [hs]
      cases hst : ss.state <;> simp_all

/-- What ends an operation, or begins AUTHENTICATE's second round trip. -/
inductive Completes (op : Op) (s : State) : State → Prop where
  /-- POLL and READ BLOCK report and are over. -/
  | report (r : Report) (hop : op ≠ .authenticate) (hr : ∀ x, r ≠ .auth x) : Completes op s (s.endWithReport r)
  /-- The attempt reaches a terminal state, is reported and discarded. -/
  | auth (ss : Session) (x : AuthState) (hop : op = .authenticate) (hs : s.session = some ss) (hi : InRoundTrip ss)
      (ht : isTerminal x = true) (ha : allowedTransition ss.state x = true) : Completes op s (s.endAuth ss x)
  /-- LOAD KEY has succeeded. -/
  | next (ss : Session) (hop : op = .authenticate) (hs : s.session = some ss) (hl : ss.state = .loadingKey) :
      Completes op s (s.keyLoaded ss)

/-- A completion ends the operation or begins the second round trip, unless AUTHENTICATE has no session in a round
trip to complete. -/
def CompletesOrFaults (op : Op) (s : State) (a : Answer) : Prop :=
  (∃ t, a = .next t ∧ Completes op s t) ∨
  (op = .authenticate ∧ (∀ ss, s.session = some ss → ¬ InRoundTrip ss) ∧
    (a = .fault .sessionAbsent ∨ a = .fault .completionUndefined))

theorem allowed_of_endsRoundTrip {x : AuthState} {r : FailReason} (hx : x = .loadingKey ∨ x = .authenticating)
    (hr : endsRoundTrip r = true) : allowedTransition x (.failed r) = true := by
  rcases hx with rfl | rfl <;> exact hr

theorem takeFailure_completes (op : Op) (x : TripFailure) (s : State) :
    CompletesOrFaults op s (s.takeFailure op x) := by
  cases op with
  | poll => exact .inl ⟨_, rfl, .report _ (by simp) (by simp)⟩
  | readBlock => exact .inl ⟨_, rfl, .report _ (by simp) (by simp)⟩
  | authenticate =>
    rcases inAttempt_cases s fun ss => .next (s.endAuth ss (.failed x.reason)) with ⟨ss, hs, hi, h⟩ | ⟨hn, h⟩
    · exact .inl ⟨_, h, .auth ss _ rfl hs hi rfl (allowed_of_endsRoundTrip hi (by cases x <;> rfl))⟩
    · exact .inr ⟨rfl, hn, h⟩

/-- R163: PARSE_ERROR_CODE fails with nothing but MissingTag on an Error frame, and its message is the code's. -/
theorem parseErrorCode_error {f : Frame} (h : classify f = .error) :
    endsRoundTrip (reasonOfErrorCode (parseErrorCode f)) = true := by
  unfold parseErrorCode
  rw [if_neg (by simp [h])]
  cases findWrapper f with
  | none => rfl
  | some v =>
    simp only [errorValueTest]
    by_cases hv : v.length < 4
    · simp [hv, reasonOfErrorCode, endsRoundTrip]
    · simp [hv, reasonOfErrorCode, endsRoundTrip]

theorem completeFrame_completes (op : Op) (f : Frame) (s : State) :
    CompletesOrFaults op s (completeFrame op (classify f) f s) := by
  cases op with
  | poll => exact .inl ⟨_, rfl, .report _ (by simp) (by simp)⟩
  | readBlock => exact .inl ⟨_, rfl, .report _ (by simp) (by simp)⟩
  | authenticate =>
    simp only [completeFrame, completeAttempt]
    rcases inAttempt_cases s _ with ⟨ss, hs, hi, h⟩ | ⟨hn, h⟩
    · rw [h]
      have he : classify f = .error → allowedTransition ss.state
          (.failed (reasonOfErrorCode (parseErrorCode f))) = true :=
        fun hc => allowed_of_endsRoundTrip hi (parseErrorCode_error hc)
      have hm : allowedTransition ss.state (.failed .unknownTemplate) = true := allowed_of_endsRoundTrip hi rfl
      by_cases hl : ss.state = .loadingKey
      · rw [if_pos hl]
        cases hc : classify f with
        | success => exact .inl ⟨_, rfl, .next ss rfl hs hl⟩
        | error => exact .inl ⟨_, rfl, .auth ss _ rfl hs hi rfl (he hc)⟩
        | malformed => exact .inl ⟨_, rfl, .auth ss _ rfl hs hi rfl hm⟩
      · rw [if_neg hl]
        have ha : ss.state = .authenticating := hi.resolve_left hl
        cases hc : classify f with
        | success => exact .inl ⟨_, rfl, .auth ss _ rfl hs hi rfl (by rw [ha]; rfl)⟩
        | error => exact .inl ⟨_, rfl, .auth ss _ rfl hs hi rfl (he hc)⟩
        | malformed => exact .inl ⟨_, rfl, .auth ss _ rfl hs hi rfl hm⟩
    · exact .inr ⟨rfl, hn, h⟩

theorem complete_completes (op : Op) (r : Result Bytes TransportError) (s : State) :
    CompletesOrFaults op s (complete op r s) := by
  cases r with
  | err e => exact takeFailure_completes op _ s
  | ok buf =>
    simp only [complete]
    cases decodeFrame buf with
    | err fe => exact takeFailure_completes op _ s
    | ok f => exact completeFrame_completes op f s

/-- Everything a round trip's transaction can do from SEQ = Busy(op, ph): advance to the next phase with the answer
it was given, or complete. -/
inductive TripStep (s : State) (op : Op) : Phase → State → Prop where
  | wrote (b : Bytes) (h : s.tx = some b) (ha : s.transport.writeAnswer = .ok) :
      TripStep s op .rtWrite ((s.doWrite b).toPhase op .rtWaitInit)
  | writeFailed (b : Bytes) (t : State) (h : s.tx = some b) (ha : s.transport.writeAnswer = .writeError)
      (hc : Completes op (s.doWrite b).clearRx t) : TripStep s op .rtWrite t
  | waited (i : InitWait) (h : s.tinit = some i) (ha : s.transport.waitAnswer = .ok) :
      TripStep s op .rtWaitInit ((s.doWait (.init i)).toPhase op .rtReadInit)
  | waitFailed (i : InitWait) (t : State) (h : s.tinit = some i) (ha : s.transport.waitAnswer = .timedOut)
      (hc : Completes op (s.doWait (.init i)).clearRx t) : TripStep s op .rtWaitInit t
  | read (ph : Phase) (hp : ph = .rtReadInit ∨ ph = .rtReadTrail)
      (hf : s.cfg.fits (s.rx.length + s.transport.chunk.length) = true) :
      TripStep s op ph ({ s.doRead with rx := s.rx ++ s.transport.chunk }.toPhase op .rtWaitTrail)
  | trailing (ha : s.transport.waitAnswer = .ok) :
      TripStep s op .rtWaitTrail ((s.doWait .trail).toPhase op .rtReadTrail)
  | assembled (t : State) (ha : s.transport.waitAnswer = .timedOut) (hc : Completes op s.endAssembly t) :
      TripStep s op .rtWaitTrail t

theorem execRoundTrip_next {s t : State} {op : Op} {ph : Phase} (hs : s.seq = .busy op ph)
    (h : execRoundTrip s = .next t) : TripStep s op ph t := by
  have fromComplete : ∀ {u : State} {r}, complete op r u = .next t → Completes op u t := by
    intro u r hc
    rcases complete_completes op r u with ⟨t', h', hC⟩ | ⟨-, -, h' | h'⟩
    · rw [hc] at h'
      injection h' with h'
      exact h' ▸ hC
    · rw [hc] at h'; cases h'
    · rw [hc] at h'; cases h'
  have readCase : ph = .rtReadInit ∨ ph = .rtReadTrail → readPhase op s = .next t → TripStep s op ph t := by
    intro hp h
    simp only [readPhase] at h
    split at h
    · rename_i hf
      injection h with h
      exact h ▸ .read ph hp hf
    · cases h
  unfold execRoundTrip at h
  rw [hs] at h
  cases ph with
  | rtWrite =>
    simp only at h
    cases htx : s.tx with
    | none => rw [htx] at h; cases h
    | some b =>
      rw [htx] at h
      simp only [writePhase] at h
      cases ha : s.transport.writeAnswer with
      | ok =>
        rw [ha] at h
        injection h with h
        exact h ▸ .wrote b htx ha
      | writeError =>
        rw [ha] at h
        exact .writeFailed b t htx ha (fromComplete h)
  | rtWaitInit =>
    simp only at h
    cases htx : s.tinit with
    | none => rw [htx] at h; cases h
    | some i =>
      rw [htx] at h
      simp only [waitInitPhase] at h
      cases ha : s.transport.waitAnswer with
      | ok =>
        rw [ha] at h
        injection h with h
        exact h ▸ .waited i htx ha
      | timedOut =>
        rw [ha] at h
        exact .waitFailed i t htx ha (fromComplete h)
  | rtReadInit => exact readCase (.inl rfl) h
  | rtWaitTrail =>
    simp only [waitTrailPhase] at h
    cases ha : s.transport.waitAnswer with
    | ok =>
      rw [ha] at h
      injection h with h
      exact h ▸ .trailing ha
    | timedOut =>
      rw [ha] at h
      exact .assembled t ha (fromComplete h)
  | rtReadTrail => exact readCase (.inr rfl) h

/-- A unit operation in any state: one result passes the port, or ENCODE refuses. -/
theorem exec_unit (u : UnitCall) :
    (∃ r, ∀ s, exec u.toInstr s = .next (s.giveResult r)) ∨
    (∃ p i d, u = .encode p i d ∧ 253 < d.length ∧ ∀ s, exec u.toInstr s = .refused .encodeTooLong) := by
  cases u with
  | encode p i d =>
    by_cases h : d.length > maxData
    · exact .inr ⟨p, i, d, rfl, h, fun s => by simp [UnitCall.toInstr, exec, execEncode, encodeFrame, h]⟩
    · exact .inl ⟨.bytes (frameBytes p i d), fun s => by
        simp [UnitCall.toInstr, exec, execEncode, encodeFrame, h]⟩
  | lrc b => exact .inl ⟨_, fun _ => rfl⟩
  | decode b => exact .inl ⟨_, fun _ => rfl⟩
  | tlvFind b t1 t2 => exact .inl ⟨_, fun _ => rfl⟩
  | buildPoll => exact .inl ⟨_, fun _ => rfl⟩
  | buildReadBlock b => exact .inl ⟨_, fun _ => rfl⟩
  | buildLoadKey kt kn k => exact .inl ⟨_, fun _ => rfl⟩
  | buildAuthenticate kt kn sc => exact .inl ⟨_, fun _ => rfl⟩
  | classify f => exact .inl ⟨_, fun _ => rfl⟩
  | parseCardInfo f => exact .inl ⟨_, fun _ => rfl⟩
  | parseBlockData f => exact .inl ⟨_, fun _ => rfl⟩
  | parseErrorCode f => exact .inl ⟨_, fun _ => rfl⟩
  | errorMessage c => exact .inl ⟨_, fun _ => rfl⟩

/-- What an accepted request does in Ready. -/
inductive Accepts (s : State) : Request → State → Prop where
  | poll : Accepts s .poll ((s.emit (.accept .poll)).startRoundTrip buildPoll .poll .poll)
  | readBlock (b : Byte) :
      Accepts s (.readBlock b)
        ((s.emit (.accept (.readBlock b))).startRoundTrip (buildReadBlock b) .readBlock .readBlock)
  | auth (kt : KeyType) (kn sc : Byte) (k : Key) (hv : parametersValid kn sc = true) :
      Accepts s (.authenticate kt kn sc k)
        (((s.emit (.accept (.authenticate kt kn sc k))).setAuth ⟨kt, kn, sc, k, .idle⟩ .loadingKey).startRoundTrip
          (buildLoadKey kt kn k) .loadKey .authenticate)
  | invalid (kt : KeyType) (kn sc : Byte) (k : Key) (hv : parametersValid kn sc = false) :
      Accepts s (.authenticate kt kn sc k)
        ((s.emit (.accept (.authenticate kt kn sc k))).endAuth ⟨kt, kn, sc, k, .idle⟩ (.failed .invalidParameter))

theorem exec_request_ready {s : State} (hs : s.seq = .ready) (q : Request) :
    ∃ t, exec q.toInstr s = .next t ∧ Accepts s q t := by
  cases q with
  | poll => exact ⟨_, by simp [Request.toInstr, exec, execOpPoll, hs], .poll⟩
  | readBlock b => exact ⟨_, by simp [Request.toInstr, exec, execOpReadBlock, hs], .readBlock b⟩
  | authenticate kt kn sc k =>
    cases hv : parametersValid kn sc with
    | true => exact ⟨_, by simp [Request.toInstr, exec, execOpAuthenticate, hs, hv], .auth kt kn sc k hv⟩
    | false => exact ⟨_, by simp [Request.toInstr, exec, execOpAuthenticate, hs, hv], .invalid kt kn sc k hv⟩

end Sys2Proof.Machine
end

