-- ==== Sys2Proof/Laws/PerInstr.lean ====
section
/-! SUPPORT. Statements about every instruction as syntax, one lemma for each constructor. -/

namespace Sys2Proof.Laws

/-- R90, R91: an instruction has bytes exactly when it has a place on the wire; a host operation has neither. -/
def Encodable.Statement (i : Instr) : Prop := Sys2Proof.encode i = none ↔ i.channel = none

theorem Encodable.cmdPoll : Encodable.Statement .cmdPoll :=
  ⟨nofun, nofun⟩
theorem Encodable.cmdReadBlock (block : Byte) : Encodable.Statement (.cmdReadBlock block) :=
  ⟨nofun, nofun⟩
theorem Encodable.cmdLoadKey (kt : KeyType) (kn : Byte) (key : Key) : Encodable.Statement (.cmdLoadKey kt kn key) :=
  ⟨nofun, nofun⟩
theorem Encodable.cmdAuthenticate (kt : KeyType) (kn sector : Byte) : Encodable.Statement (.cmdAuthenticate kt kn sector) :=
  ⟨nofun, nofun⟩
theorem Encodable.rspSuccess (l p i : Byte) (tp : Bytes) : Encodable.Statement (.rspSuccess l p i tp) :=
  ⟨nofun, nofun⟩
theorem Encodable.rspError (l p i : Byte) (tp : Bytes) : Encodable.Statement (.rspError l p i tp) :=
  ⟨nofun, nofun⟩
theorem Encodable.rspMalformed (l p i m0 m1 : Byte) (tp : Bytes) : Encodable.Statement (.rspMalformed l p i m0 m1 tp) :=
  ⟨nofun, nofun⟩
theorem Encodable.valReadBlockData (rest : Bytes) : Encodable.Statement (.valReadBlockData rest) :=
  ⟨nofun, nofun⟩
theorem Encodable.valError (value : Bytes) : Encodable.Statement (.valError value) :=
  ⟨nofun, nofun⟩
theorem Encodable.lrc (b : Bytes) : Encodable.Statement (.lrc b) :=
  ⟨fun _ => rfl, fun _ => rfl⟩
theorem Encodable.encode (p i : Byte) (d : Bytes) : Encodable.Statement (.encode p i d) :=
  ⟨fun _ => rfl, fun _ => rfl⟩
theorem Encodable.decode (b : Bytes) : Encodable.Statement (.decode b) :=
  ⟨fun _ => rfl, fun _ => rfl⟩
theorem Encodable.tlvFind (b : Bytes) (t1 t2 : Byte) : Encodable.Statement (.tlvFind b t1 t2) :=
  ⟨fun _ => rfl, fun _ => rfl⟩
theorem Encodable.buildPoll : Encodable.Statement .buildPoll :=
  ⟨fun _ => rfl, fun _ => rfl⟩
theorem Encodable.buildReadBlock (block : Byte) : Encodable.Statement (.buildReadBlock block) :=
  ⟨fun _ => rfl, fun _ => rfl⟩
theorem Encodable.buildLoadKey (kt : KeyType) (kn : Byte) (key : Key) : Encodable.Statement (.buildLoadKey kt kn key) :=
  ⟨fun _ => rfl, fun _ => rfl⟩
theorem Encodable.buildAuthenticate (kt : KeyType) (kn sector : Byte) : Encodable.Statement (.buildAuthenticate kt kn sector) :=
  ⟨fun _ => rfl, fun _ => rfl⟩
theorem Encodable.classify (f : Frame) : Encodable.Statement (.classify f) :=
  ⟨fun _ => rfl, fun _ => rfl⟩
theorem Encodable.parseCardInfo (f : Frame) : Encodable.Statement (.parseCardInfo f) :=
  ⟨fun _ => rfl, fun _ => rfl⟩
theorem Encodable.parseBlockData (f : Frame) : Encodable.Statement (.parseBlockData f) :=
  ⟨fun _ => rfl, fun _ => rfl⟩
theorem Encodable.parseErrorCode (f : Frame) : Encodable.Statement (.parseErrorCode f) :=
  ⟨fun _ => rfl, fun _ => rfl⟩
theorem Encodable.errorMessage (c : Byte) : Encodable.Statement (.errorMessage c) :=
  ⟨fun _ => rfl, fun _ => rfl⟩
theorem Encodable.roundTrip : Encodable.Statement .roundTrip :=
  ⟨fun _ => rfl, fun _ => rfl⟩
theorem Encodable.opPoll : Encodable.Statement .opPoll :=
  ⟨fun _ => rfl, fun _ => rfl⟩
theorem Encodable.opReadBlock (block : Byte) : Encodable.Statement (.opReadBlock block) :=
  ⟨fun _ => rfl, fun _ => rfl⟩
theorem Encodable.opAuthenticate (kt : KeyType) (kn sector : Byte) (key : Key) : Encodable.Statement (.opAuthenticate kt kn sector key) :=
  ⟨fun _ => rfl, fun _ => rfl⟩

end Sys2Proof.Laws
end

