-- ==== Sys2Proof/Laws/Tlv.lean ====
section
/-! SUPPORT. TLV_FIND: everything a scan can answer. -/

namespace Sys2Proof

/-- A found value stands in the buffer, behind at least a tag and its length byte. -/
theorem tlvFind_some_split {t1 t2 : Byte} {b v : Bytes} (h : tlvFind t1 t2 b = some v) :
    ∃ before after : Bytes, b = before ++ v ++ after ∧ 3 ≤ before.length := by
  induction b using tlvFind.induct t1 t2 with
  | case1 a b l rest hc =>
    simp only [tlvFind, if_pos hc, Option.some.injEq] at h
    subst h
    exact ⟨[a, b, l], rest.drop l.toNat, by simp, by simp⟩
  | case2 a b l rest hc ih =>
    simp only [tlvFind, if_neg hc] at h
    obtain ⟨p, q, he, hp⟩ := ih h
    exact ⟨a :: p, q, by rw [he]; simp, by simp; omega⟩
  | case3 b hb =>
    rw [tlvFind] at h
    · simp at h
    · exact hb

/-- A well-formed element at the head of the buffer is the answer. -/
theorem tlvFind_head {t1 t2 l : Byte} {v more : Bytes} (h : l.toNat = v.length) :
    tlvFind t1 t2 (t1 :: t2 :: l :: (v ++ more)) = some v := by
  simp [tlvFind, h]

end Sys2Proof

namespace Sys2Proof.Machine

theorem tlvAt_head (t1 t2 a b l x : Byte) (rest : Bytes) :
    TlvAt (a :: b :: l :: rest) t1 t2 0 x ↔ a = t1 ∧ b = t2 ∧ l = x ∧ x.toNat ≤ rest.length := by
  simp [TlvAt]
  intros
  omega

theorem tlvAt_tail (t1 t2 a x : Byte) (i : Nat) (rest : Bytes) :
    TlvAt (a :: rest) t1 t2 (i + 1) x ↔ TlvAt rest t1 t2 i x := by
  simp [TlvAt]
  intros
  omega

theorem tlvAt_short {b : Bytes} (hb : b.length < 3) (t1 t2 : Byte) (i : Nat) (x : Byte) : ¬ TlvAt b t1 t2 i x := by
  rintro ⟨-, -, h, hl⟩
  omega

end Sys2Proof.Machine
end

