-- ==== Sys2Proof/Tests/Slice0.lean ====
section
/-! SUPPORT. The model's own tests. Expected values are the spec's: rule examples (R<n>), test vectors (V<n>) and
programs (P<n>) of 95_test_vectors.md. The second half gives, for each obligation with hypotheses, inputs that meet
them, clause by clause. -/

namespace Sys2Proof.Tests

open Sys2Proof Sys2Proof.Machine

/-! ## Helpers -/

/-- The next state of an answer. -/
def after (a : Answer) : Option State :=
  match a with
  | .next s    => some s
  | .fault _   => none
  | .refused _ => none

/-- The outputs of an answer. -/
def outputs (a : Answer) : Option (List PortEvent) := (after a).map State.trace

/-- The result that a unit operation gives, from reset. -/
def resultOf (i : Instr) : Option UnitResult :=
  match outputs (exec i State.reset) with
  | some [.result r] => some r
  | _                => none

/-- The frame of a buffer that decodes; an undecodable one gives a frame no rule produces. -/
def frameOf (b : Bytes) : Frame :=
  match decodeFrame b with
  | .ok f  => f
  | .err _ => { raw := [], lenField := 0, pcb := 0, ins := 0, data := [] }

/-- The block in a phase of an operation, with all three kinds of answers scripted. -/
def busy (op : Op) (ph : Phase) (rx : Bytes) (w : WriteAnswer) (a : WaitAnswer) (c : Bytes) : State :=
  { State.reset with
    seq := .busy op ph, rx := rx, transport := { writes := [w], waits := [a], reads := [c], draws := 0 } }

/-- The same at the end of an assembly. -/
def ending (op : Op) (rx : Bytes) : State := busy op .rtWaitTrail rx .ok .timedOut []

def keyFF : Key := ⟨0xFF, 0xFF, 0xFF, 0xFF, 0xFF, 0xFF⟩
def keyA0 : Key := ⟨0xA0, 0xA1, 0xA2, 0xA3, 0xA4, 0xA5⟩

/-- A session of P3 in one of the workflow's states. -/
def sessionIn (x : AuthState) : Session :=
  { keyType := .B, keyNumber := 0x01, sector := 0x27, key := keyA0, state := x }

/-- The same at the end of a round trip of AUTHENTICATE. -/
def endingAuth (x : AuthState) (rx : Bytes) : State := { ending .authenticate rx with session := some (sessionIn x) }

/-! Frames of 95_test_vectors.md V4. -/

def sMin : Bytes := [0x02, 0x04, 0x00, 0x3E, 0xFF, 0x01, 0xC4, 0x03]
def eMin : Bytes := [0x02, 0x04, 0x00, 0x3E, 0xFF, 0x03, 0xC6, 0x03]
def mal : Bytes := [0x02, 0x04, 0x00, 0x3E, 0xFF, 0x02, 0xC7, 0x03]
def e08 : Bytes :=
  [0x02, 0x0C, 0x00, 0x3E, 0xFF, 0x03, 0x07, 0xDF, 0x78, 0x04, 0xB0, 0x00, 0x00, 0x08, 0xD2, 0x03]
def eShort : Bytes := [0x02, 0x0B, 0x00, 0x3E, 0xFF, 0x03, 0x06, 0xDF, 0x78, 0x03, 0xB0, 0x00, 0x00, 0xDB, 0x03]
def blockD : Bytes :=
  [0x10, 0x11, 0x12, 0x13, 0x14, 0x15, 0x16, 0x17, 0x18, 0x19, 0x1A, 0x1B, 0x1C, 0x1D, 0x1E, 0x1F]
def b16 : Bytes :=
  [0x02, 0x19, 0x00, 0x3E, 0xFF, 0x01, 0x14, 0xDF, 0x78, 0x11, 0xA5] ++ blockD ++ [0xDE, 0x03]
def b10 : Bytes :=
  [0x02, 0x13, 0x00, 0x3E, 0xFF, 0x01, 0x0E, 0xDF, 0x78, 0x0B, 0xA5] ++ blockD.take 10 ++ [0xD5, 0x03]
def bCm : Bytes :=
  [0x02, 0x19, 0x00, 0x3E, 0xFF, 0x01, 0x14, 0xDF, 0x78, 0x11, 0xA9] ++ blockD ++ [0xD2, 0x03]
def bEmpty : Bytes := [0x02, 0x08, 0x00, 0x3E, 0xFF, 0x01, 0x03, 0xDF, 0x78, 0x00, 0x6C, 0x03]
def bNoTag : Bytes := [0x02, 0x08, 0x00, 0x3E, 0xFF, 0x01, 0x03, 0xDF, 0x16, 0x00, 0x02, 0x03]
def ciPart : Bytes :=
  [0x02, 0x0C, 0x00, 0x3E, 0xFF, 0x01, 0x07, 0xDF, 0x0D, 0x04, 0xA1, 0xB2, 0xC3, 0xD4, 0x19, 0x03]
def ciErr : Bytes := [0x02, 0x09, 0x00, 0x3E, 0xFF, 0x03, 0x04, 0xDF, 0x16, 0x01, 0x01, 0x06, 0x03]
def lkOk : Bytes := [0x02, 0x09, 0x00, 0x3E, 0xFF, 0x01, 0x04, 0xDF, 0x78, 0x01, 0xA9, 0xC2, 0x03]
def lkBad : Bytes := [0x02, 0x09, 0x00, 0x3E, 0xFF, 0x01, 0x04, 0xDF, 0x78, 0x01, 0xA9, 0xC3, 0x03]

/-! ## WellFormed: each check refuses an ill-formed term -/

theorem test_wf_rspMalformed_success_marker : (Instr.rspMalformed 4 0 0x3E 0xFF 0x01 []).wellFormed = false := by decide
theorem test_wf_rspMalformed_error_marker : (Instr.rspMalformed 4 0 0x3E 0xFF 0x03 []).wellFormed = false := by decide
theorem test_wf_rspMalformed_other_marker : (Instr.rspMalformed 4 0 0x3E 0xFF 0x02 []).wellFormed = true := by decide
theorem test_wf_valReadBlockData :
    (Instr.valReadBlockData (List.replicate 255 0)).wellFormed = false ∧
    (Instr.valReadBlockData (List.replicate 254 0)).wellFormed = true := by
  simp only [Instr.wellFormed, List.length_replicate]; decide
theorem test_wf_valError :
    (Instr.valError (List.replicate 256 0)).wellFormed = false ∧
    (Instr.valError (List.replicate 255 0)).wellFormed = true := by
  simp only [Instr.wellFormed, List.length_replicate]; decide
/-- R165: the parsers take decoded frames only. -/
theorem test_wf_frames :
    (Instr.classify (frameOf [])).wellFormed = false ∧ (Instr.parseCardInfo (frameOf [])).wellFormed = false ∧
    (Instr.parseBlockData (frameOf [])).wellFormed = false ∧ (Instr.parseErrorCode (frameOf [])).wellFormed = false ∧
    (Instr.classify { frameOf sMin with pcb := 1 }).wellFormed = false ∧
    (Instr.classify (frameOf sMin)).wellFormed = true := by decide

/-! ## Decoding: a word of each wire form, written out from its byte table (R82 to R86) -/

theorem test_decode_cmdPoll :
    decode [0x02, 0x0A, 0x00, 0x3E, 0xDF, 0x7E, 0x01, 0x00, 0x96, 0x03] = .ok .cmdPoll := by decide
/-- V3.4 -/
theorem test_decode_cmdReadBlock :
    decode [0x02, 0x07, 0x00, 0x3E, 0xDF, 0x78, 0x02, 0xA5, 0x04, 0x3D, 0x03] = .ok (.cmdReadBlock 0x04) := by decide
/-- V3.9 -/
theorem test_decode_cmdLoadKey :
    decode [0x02, 0x14, 0x00, 0x3E, 0xDF, 0x78, 0x0F, 0xA9, 0x04, 0x01, 0xFF, 0xFF, 0xFF, 0xFF, 0xFF, 0xFF,
      0xA0, 0xA1, 0xA2, 0xA3, 0xA4, 0xA5, 0x2F, 0x03] = .ok (.cmdLoadKey .B 0x01 keyA0) := by decide
/-- V3.14 -/
theorem test_decode_cmdAuthenticate :
    decode [0x02, 0x09, 0x00, 0x3E, 0xDF, 0x78, 0x04, 0xB0, 0x00, 0x01, 0x05, 0x20, 0x03]
      = .ok (.cmdAuthenticate .A 0x01 0x05) := by decide
theorem test_decode_rspSuccess : decode bEmpty = .ok (.rspSuccess 0x08 0x00 0x3E [0x03, 0xDF, 0x78, 0x00]) := by decide
theorem test_decode_rspError : decode eMin = .ok (.rspError 0x04 0x00 0x3E []) := by decide
theorem test_decode_rspMalformed : decode mal = .ok (.rspMalformed 0x04 0x00 0x3E 0xFF 0x02 []) := by decide
theorem test_decode_valReadBlockData :
    decode [0xDF, 0x78, 0x03, 0xA5, 0x10, 0x11] = .ok (.valReadBlockData [0x10, 0x11]) := by decide
theorem test_decode_valError :
    decode [0xDF, 0x78, 0x04, 0xB0, 0x00, 0x00, 0x08] = .ok (.valError [0xB0, 0x00, 0x00, 0x08]) := by decide

/-- R89, R91: what is no form is rejected by name: a wrong LRC in a command, a key type code of `01`, a value longer
than its length byte says. -/
theorem test_decode_rejects :
    decodeOn .sent [0x02, 0x07, 0x00, 0x3E, 0xDF, 0x78, 0x02, 0xA5, 0x04, 0x3C, 0x03] = .err .commandLrc ∧
    decodeOn .sent [0x02, 0x09, 0x00, 0x3E, 0xDF, 0x78, 0x04, 0xB0, 0x01, 0x01, 0x05, 0x21, 0x03] = .err .noCommand ∧
    decodeOn .received lkBad = .err (.notResponse .lrcMismatch) ∧
    decodeOn .successValue [0xDF, 0x78, 0x02, 0xA5, 0x10, 0x11] = .err .noBlockValue ∧
    decodeOn .errorValue [0xDF, 0x78, 0x02, 0xB0, 0x00, 0x00] = .err .noErrorValue := by decide

/-- The host's numbering: the first byte is the word's lowest. -/
theorem test_decodeTableWord :
    decodeTableWord 64 0x03C401FF3E000402 = some (.rspSuccess 0x04 0x00 0x3E []) ∧
    decodeTableWord 80 0x03960001_7EDF3E000A02 = some .cmdPoll ∧ decodeTableWord 0 0 = none := by decide

/-- R289: bytes that stand on the receiving side are a response, even where they are a command's. -/
theorem test_channel_settles_the_row :
    decodeOn .received [0x02, 0x07, 0x00, 0x3E, 0xDF, 0x78, 0x02, 0xA5, 0x00, 0x39, 0x03]
      = .ok (.rspMalformed 0x07 0x00 0x3E 0xDF 0x78 [0x02, 0xA5, 0x00]) := by decide

/-! ## Unit operations: V1 to V4 -/

/-- V1.1, V1.2 -/
theorem test_lrc :
    resultOf (.lrc []) = some (.byte 0x00) ∧
    resultOf (.lrc [0x07, 0x00, 0x3E, 0xDF, 0x78, 0x02, 0xA5, 0x00]) = some (.byte 0x39) := by decide
/-- V1.5, V1.6 -/
theorem test_encode :
    resultOf (.encode 0x00 0x3E [0xDF, 0x78, 0x02, 0xA5, 0x00])
      = some (.bytes [0x02, 0x07, 0x00, 0x3E, 0xDF, 0x78, 0x02, 0xA5, 0x00, 0x39, 0x03]) ∧
    resultOf (.encode 0x00 0x3E []) = some (.bytes [0x02, 0x02, 0x00, 0x3E, 0x3C, 0x03]) := by decide
/-- V1.9 -/
theorem test_encode_too_long :
    exec (.encode 0x00 0x3E (List.replicate 254 0)) State.reset = .refused .encodeTooLong := by
  simp only [exec, execEncode, encodeFrame, List.length_replicate]; rfl
/-- V1.10, V1.22 (LEN is not checked) -/
theorem test_decode :
    resultOf (.decode [0x02, 0x04, 0x12, 0x34, 0x56, 0x78, 0x0C, 0x03]) = some (.frame (.ok
      { raw := [0x02, 0x04, 0x12, 0x34, 0x56, 0x78, 0x0C, 0x03], lenField := 0x04, pcb := 0x12, ins := 0x34,
        data := [0x56, 0x78] })) ∧
    resultOf (.decode [0x02, 0x09, 0x00, 0x3E, 0xFF, 0x01, 0xC9, 0x03]) = some (.frame (.ok
      { raw := [0x02, 0x09, 0x00, 0x3E, 0xFF, 0x01, 0xC9, 0x03], lenField := 0x09, pcb := 0x00, ins := 0x3E,
        data := [0xFF, 0x01] })) := by decide
/-- V1.19, V1.20, V1.25 (R114's order) -/
theorem test_decode_priority :
    resultOf (.decode [0x12, 0x04, 0x00, 0x3E, 0xFF, 0x01, 0xC4]) = some (.frame (.err .tooShort)) ∧
    resultOf (.decode [0x12, 0x04, 0x00, 0x3E, 0xFF, 0x01, 0x00, 0x03]) = some (.frame (.err .badBoundary)) ∧
    resultOf (.decode [0x02, 0x0A, 0x00, 0x3E, 0xDF, 0x7E, 0x01, 0x00, 0x96, 0x03])
      = some (.frame (.err .lrcMismatch)) := by decide
/-- V2.1, V2.3, V2.6, V2.10 -/
theorem test_tlvFind :
    resultOf (.tlvFind [0x00, 0xDF, 0x16, 0x02, 0x41, 0x42, 0x00] 0xDF 0x16) = some (.value (some [0x41, 0x42])) ∧
    resultOf (.tlvFind [0xDF, 0x16, 0x09, 0xDF, 0x16, 0x01, 0x55] 0xDF 0x16) = some (.value (some [0x55])) ∧
    resultOf (.tlvFind [0xDF, 0x16, 0x00] 0xDF 0x16) = some (.value (some [])) ∧
    resultOf (.tlvFind [0xDF, 0x16, 0xDF, 0x16, 0x01, 0x00] 0xDF 0x16) = some (.value (some [0x00])) := by decide
/-- V2.4, V2.5, V2.7, V2.9 -/
theorem test_tlvFind_none :
    resultOf (.tlvFind [0xDF, 0x16, 0x05, 0x41] 0xDF 0x16) = some (.value none) ∧
    resultOf (.tlvFind [0xDF, 0x16] 0xDF 0x16) = some (.value none) ∧
    resultOf (.tlvFind [0x01, 0xDF, 0x78, 0x02, 0xA5] 0xDF 0x78) = some (.value none) ∧
    resultOf (.tlvFind [] 0xDF 0x16) = some (.value none) := by decide
/-- V3.1 -/
theorem test_buildPoll :
    resultOf .buildPoll = some (.bytes [0x02, 0x0A, 0x00, 0x3E, 0xDF, 0x7E, 0x01, 0x00, 0x96, 0x03]) := by decide
/-- V3.7 -/
theorem test_buildReadBlock :
    resultOf (.buildReadBlock 0xFF)
      = some (.bytes [0x02, 0x07, 0x00, 0x3E, 0xDF, 0x78, 0x02, 0xA5, 0xFF, 0xC6, 0x03]) := by decide
/-- V3.11 -/
theorem test_buildLoadKey :
    resultOf (.buildLoadKey .B 0x00 ⟨0x01, 0x02, 0x03, 0x04, 0x05, 0x06⟩) = some (.bytes
      [0x02, 0x14, 0x00, 0x3E, 0xDF, 0x78, 0x0F, 0xA9, 0x04, 0x00, 0xFF, 0xFF, 0xFF, 0xFF, 0xFF, 0xFF,
        0x01, 0x02, 0x03, 0x04, 0x05, 0x06, 0x28, 0x03]) := by decide
/-- V3.13, V3.17 (the builder checks no range) -/
theorem test_buildAuthenticate :
    resultOf (.buildAuthenticate .B 0x01 0x27) = some (.bytes
      [0x02, 0x09, 0x00, 0x3E, 0xDF, 0x78, 0x04, 0xB0, 0x04, 0x01, 0x27, 0x06, 0x03]) ∧
    resultOf (.buildAuthenticate .A 0x02 0x00) = some (.bytes
      [0x02, 0x09, 0x00, 0x3E, 0xDF, 0x78, 0x04, 0xB0, 0x00, 0x02, 0x00, 0x26, 0x03]) := by decide
/-- V4.1 -/
theorem test_classify :
    resultOf (.classify (frameOf sMin)) = some (.template .success) ∧
    resultOf (.classify (frameOf eMin)) = some (.template .error) ∧
    resultOf (.classify (frameOf mal)) = some (.template .malformed) := by decide
/-- V4.3, V4.5 -/
theorem test_parseCardInfo :
    resultOf (.parseCardInfo (frameOf ciPart))
      = some (.cardInfo { type := none, uid := some [0xA1, 0xB2, 0xC3, 0xD4], sak := none, atq := none }) ∧
    resultOf (.parseCardInfo (frameOf ciErr))
      = some (.cardInfo { type := none, uid := none, sak := none, atq := none }) := by decide
/-- V4.8 -/
theorem test_parseBlockData : resultOf (.parseBlockData (frameOf b16)) = some (.blockData (.ok blockD)) := by decide
/-- V4.10 to V4.12, V4.14, V4.15 -/
theorem test_parseBlockData_failures :
    resultOf (.parseBlockData (frameOf b10)) = some (.blockData (.err .shortData)) ∧
    resultOf (.parseBlockData (frameOf bCm)) = some (.blockData (.err .commandMismatch)) ∧
    resultOf (.parseBlockData (frameOf bEmpty)) = some (.blockData (.err .commandMismatch)) ∧
    resultOf (.parseBlockData (frameOf bNoTag)) = some (.blockData (.err .missingTag)) ∧
    resultOf (.parseBlockData (frameOf e08)) = some (.blockData (.err .unexpectedTemplate)) := by decide
/-- V4.17 -/
theorem test_parseErrorCode :
    resultOf (.parseErrorCode (frameOf e08))
      = some (.errorCode (.ok (0x08, "authentication failed (wrong key/sector)"))) := by decide
/-- V4.20, V4.22 -/
theorem test_parseErrorCode_failures :
    resultOf (.parseErrorCode (frameOf eShort)) = some (.errorCode (.err .missingTag)) ∧
    resultOf (.parseErrorCode (frameOf sMin)) = some (.errorCode (.err .unexpectedTemplate)) := by decide
/-- V4.23 -/
theorem test_errorMessage :
    resultOf (.errorMessage 0x08) = some (.text "authentication failed (wrong key/sector)") ∧
    resultOf (.errorMessage 0x05) = some (.text "general operation error") ∧
    resultOf (.errorMessage 0xFF) = some (.text "unknown error code") := by decide
/-- R166, D10 -/
theorem test_renderField_sentinel : renderField none = "-" := by decide

/-! ## Requests and round trips: steps of P1 to P7 -/

/-- P1, step 1 -/
theorem test_opPoll :
    (after (exec .opPoll State.reset)).map (fun s => (s.seq, s.tx, s.tinit, s.trace)) = some
      (.busy .poll .rtWrite, some [0x02, 0x0A, 0x00, 0x3E, 0xDF, 0x7E, 0x01, 0x00, 0x96, 0x03], some .poll,
        [.accept .poll]) := by decide
/-- P6, step 5: held while busy -/
theorem test_opPoll_held :
    (after (exec .opPoll (ending .readBlock []))).map (fun s => (s.seq, s.requests, s.trace)) = some
      (.busy .readBlock .rtWaitTrail, [.poll], []) := by decide
/-- P2, step 8 -/
theorem test_opReadBlock :
    (after (exec (.opReadBlock 0x05) State.reset)).map (fun s => (s.seq, s.tx, s.tinit)) = some
      (.busy .readBlock .rtWrite, some [0x02, 0x07, 0x00, 0x3E, 0xDF, 0x78, 0x02, 0xA5, 0x05, 0x3C, 0x03],
        some .readBlock) := by decide
/-- P3, step 1 -/
theorem test_opAuthenticate :
    (after (exec (.opAuthenticate .B 0x01 0x27 keyA0) State.reset)).map
        (fun s => (s.seq, s.session, s.tinit, s.trace)) = some
      (.busy .authenticate .rtWrite, some (sessionIn .loadingKey), some .loadKey,
        [.accept (.authenticate .B 0x01 0x27 keyA0), .notify .idle .loadingKey]) := by decide
/-- P6, step 1; V5.2 -/
theorem test_opAuthenticate_invalid :
    (after (exec (.opAuthenticate .A 0x02 0x00 keyFF) State.reset)).map (fun s => (s.seq, s.session, s.tx, s.trace))
      = some (.ready, none, none,
        [.accept (.authenticate .A 0x02 0x00 keyFF), .notify .idle (.failed .invalidParameter),
          .report (.auth (.failed .invalidParameter))]) ∧
    (after (exec (.opAuthenticate .A 0x00 0x28 keyFF) State.reset)).map State.seq = some .ready := by decide
/-- P2, steps 4 and 5 -/
theorem test_roundTrip_reads :
    (after (exec .roundTrip (busy .readBlock .rtReadInit [] .ok .ok [0x02, 0x19]))).map (fun s => (s.seq, s.rx))
      = some (.busy .readBlock .rtWaitTrail, [0x02, 0x19]) ∧
    (after (exec .roundTrip (busy .readBlock .rtReadTrail [0x02] .ok .ok [0x19]))).map (fun s => (s.seq, s.rx))
      = some (.busy .readBlock .rtWaitTrail, [0x02, 0x19]) ∧
    (after (exec .roundTrip (busy .readBlock .rtWaitTrail [0x02] .ok .ok []))).map (fun s => (s.seq, s.rx))
      = some (.busy .readBlock .rtReadTrail, [0x02]) := by decide
/-- V5.4; R227 with a capacity of 16 -/
theorem test_roundTrip_ends :
    outputs (exec .roundTrip { endingAuth .loadingKey [] with
        seq := .busy .authenticate .rtWrite, tx := some sMin,
        transport := { writes := [.writeError], waits := [], reads := [], draws := 0 } }) = some
      [.write sMin 100 .writeError, .notify .loadingKey (.failed (.transportFailure .writeTimeout)),
        .report (.auth (.failed (.transportFailure .writeTimeout)))] ∧
    exec .roundTrip { busy .poll .rtReadTrail (List.replicate 16 0) .ok .ok [0x00] with
        cfg := { Config.standard with rxCapacity := some 16 } } = .refused .rxOverflow := ⟨by decide, rfl⟩

/-! ## The wire forms as instructions -/

/-- P2, step 2: the step after acceptance writes TX. -/
theorem test_cmdReadBlock :
    (after (exec (.cmdReadBlock 0x04) { busy .readBlock .rtWrite [] .ok .ok [] with
        tx := some [0x02, 0x07, 0x00, 0x3E, 0xDF, 0x78, 0x02, 0xA5, 0x04, 0x3D, 0x03] })).map
      (fun s => (s.seq, s.trace)) = some (.busy .readBlock .rtWaitInit,
        [.write [0x02, 0x07, 0x00, 0x3E, 0xDF, 0x78, 0x02, 0xA5, 0x04, 0x3D, 0x03] 100 .ok]) := by decide
theorem test_cmd_not_due :
    exec .cmdPoll State.reset = .refused .commandNotDue ∧
    exec (.cmdReadBlock 0x05) { busy .readBlock .rtWrite [] .ok .ok [] with tx := some (buildReadBlock 0x04) }
      = .refused .commandNotDue := ⟨rfl, rfl⟩
/-- V5.4, V5.5: a write that fails ends the operation. -/
theorem test_cmdLoadKey :
    outputs (exec (.cmdLoadKey .B 0x01 keyA0) { endingAuth .loadingKey [] with
        seq := .busy .authenticate .rtWrite, tx := some (buildLoadKey .B 0x01 keyA0),
        transport := { writes := [.writeError], waits := [], reads := [], draws := 0 } }) = some
      [.write (buildLoadKey .B 0x01 keyA0) 100 .writeError,
        .notify .loadingKey (.failed (.transportFailure .writeTimeout)),
        .report (.auth (.failed (.transportFailure .writeTimeout)))] := by decide
/-- P3, step 6 -/
theorem test_cmdAuthenticate :
    (after (exec (.cmdAuthenticate .B 0x01 0x27) { endingAuth .authenticating [] with
        seq := .busy .authenticate .rtWrite
        tx := some [0x02, 0x09, 0x00, 0x3E, 0xDF, 0x78, 0x04, 0xB0, 0x04, 0x01, 0x27, 0x06, 0x03] })).map State.seq
      = some (.busy .authenticate .rtWaitInit) := by decide
/-- P1, step 2 -/
theorem test_cmdPoll :
    (after (exec .cmdPoll { busy .poll .rtWrite [] .ok .ok [] with tx := some buildPoll })).map State.seq
      = some (.busy .poll .rtWaitInit) := by decide
/-- P3, step 5 -/
theorem test_rspSuccess_loadKey :
    (after (step (endingAuth .loadingKey lkOk))).map (fun s => (s.seq, s.tx, s.session)) = some
      (.busy .authenticate .rtWrite,
        some [0x02, 0x09, 0x00, 0x3E, 0xDF, 0x78, 0x04, 0xB0, 0x04, 0x01, 0x27, 0x06, 0x03],
        some (sessionIn .authenticating)) ∧
    (after (step (endingAuth .loadingKey lkOk))).map (fun s => (s.tinit, s.rx)) = some (some .authenticate, []) := by
  decide
/-- The example of R222 -/
theorem test_rspSuccess_poll :
    (after (step (ending .poll ciPart))).map (fun s => (s.seq, s.trace)) = some
      (.ready, [.wait .trail 50 .timedOut, .report (.poll (.ok
        ({ type := none, uid := some [0xA1, 0xB2, 0xC3, 0xD4], sak := none, atq := none }, ciPart)))]) := by decide
/-- V4.20: an Error response without a usable DF78 value -/
theorem test_rspError :
    outputs (exec (.rspError 0x04 0x00 0x3E []) (endingAuth .loadingKey eMin)) = some
      [.wait .trail 50 .timedOut, .notify .loadingKey (.failed (.responseFailure .missingTag)),
        .report (.auth (.failed (.responseFailure .missingTag)))] := by decide
/-- R194, D14 -/
theorem test_rspMalformed :
    outputs (exec (.rspMalformed 0x04 0x00 0x3E 0xFF 0x02 []) (endingAuth .loadingKey mal)) = some
      [.wait .trail 50 .timedOut, .notify .loadingKey (.failed .unknownTemplate),
        .report (.auth (.failed .unknownTemplate))] := by decide
/-- P2, step 7 -/
theorem test_valReadBlockData :
    outputs (exec (.valReadBlockData blockD) (ending .readBlock b16)) = some
      [.wait .trail 50 .timedOut, .report (.readBlock (.ok blockD))] := by decide
/-- P4, step 9 -/
theorem test_valError :
    outputs (exec (.valError [0xB0, 0x00, 0x00, 0x08]) (endingAuth .authenticating e08)) = some
      [.wait .trail 50 .timedOut,
        .notify .authenticating (.failed (.deviceError 0x08 "authentication failed (wrong key/sector)")),
        .report (.auth (.failed (.deviceError 0x08 "authentication failed (wrong key/sector)")))] := by decide
/-- R58: bytes that come in Ready wait in the transport. -/
theorem test_bytes_wait_in_the_transport :
    (after (exec (.rspSuccess 0x04 0x00 0x3E []) State.reset)).map (fun s => s.transport.reads) = some [sMin] := by
  decide
/-- P5, step 5 -/
theorem test_step_corrupt_response :
    outputs (step (endingAuth .loadingKey lkBad)) = some
      [.wait .trail 50 .timedOut, .notify .loadingKey (.failed (.protocolError .lrcMismatch)),
        .report (.auth (.failed (.protocolError .lrcMismatch)))] := by decide
/-- P7, step 5 -/
theorem test_step_short_response :
    outputs (step (ending .readBlock [0x02, 0x19, 0x00, 0x3E, 0xFF, 0x01, 0x14])) = some
      [.wait .trail 50 .timedOut, .report (.readBlock (.err (.frameFailure .tooShort)))] := by decide
/-- R281 -/
theorem test_step_reset :
    (after (step { endingAuth .loadingKey lkOk with resetLine := true })).map
      (fun s => (s.seq, s.rx, s.session, s.trace)) = some (.ready, [], none, [.reset]) := by decide
/-- The host's placement: the word of SMIN runs as a response. -/
theorem test_withFetchWord :
    outputs (step (State.reset.withFetchWord 64 0x03C401FF3E000402)) = some
      [.wait .trail 50 .timedOut, .report (.poll (.ok
        ({ type := none, uid := none, sak := none, atq := none }, sMin)))] := by decide

/-! ## Witnesses: inputs that meet the hypotheses of each obligation, clause by clause -/

/-- LOAD KEY in `RtWrite`, its frame in TX. -/
def loadKeyDue : State :=
  { endingAuth .loadingKey [] with
    seq := .busy .authenticate .rtWrite, tx := some (buildLoadKey .B 0x01 keyA0), tinit := some .loadKey }

/-- READ BLOCK waiting for its response. -/
def readBlockWaits (a : WaitAnswer) : State :=
  { busy .readBlock .rtWaitInit [] .ok a [] with tx := some (buildReadBlock 0x04), tinit := some .readBlock }

/-- POLL and AUTHENTICATE in a write that fails. -/
def pollWriteFails : State :=
  { busy .poll .rtWrite [] .writeError .ok [] with tx := some buildPoll, tinit := some .poll }

def loadKeyWriteFails : State :=
  { loadKeyDue with transport := { writes := [.writeError], waits := [], reads := [], draws := 0 } }

/-- AUTHENTICATE without a session, in a write that fails and in an initial wait that times out. -/
def noSessionWrites : State := { loadKeyWriteFails with session := none }

def noSessionWaits : State :=
  { busy .authenticate .rtWaitInit [] .ok .timedOut [] with tx := some sMin, tinit := some .loadKey }

/-- READ BLOCK in a read with a receive buffer of eight bytes that holds four. -/
def boundedRead (ph : Phase) (c : Bytes) : State :=
  { busy .readBlock ph [0, 0, 0, 0] .ok .ok c with cfg := { Config.standard with rxCapacity := some 8 } }

theorem witness_ResetLeavesTheBlockReady :
    (noSessionWrites.session = none ∧ noSessionWrites.seq = .busy .authenticate .rtWrite ∧ noSessionWrites.tx ≠ none ∧
      noSessionWrites.transport.writeAnswer = .writeError) ∧
    (noSessionWaits.session = none ∧ noSessionWaits.seq = .busy .authenticate .rtWaitInit ∧
      noSessionWaits.tinit ≠ none ∧ noSessionWaits.transport.waitAnswer = .timedOut) ∧
    (ending .authenticate []).seq = .busy .authenticate .rtWaitTrail ∧
    (ending .authenticate []).transport.waitAnswer = .timedOut ∧ (ending .authenticate []).session = none := by decide

theorem witness_ResetAbandonsTheOperation : ({ loadKeyDue with resetLine := true } : State).resetLine = true := rfl

theorem witness_IdleBlockKeepsItsState :
    State.reset.seq = .ready ∧ State.reset.requests = [] ∧ State.reset.units = [] ∧ State.reset.resetLine = false := by
  decide

theorem witness_StepRunsTheInstructionThatStandsNext_ports :
    ({ loadKeyDue with units := [.lrc []] } : State).units = .lrc [] :: [] ∧
    ({ State.reset with requests := [.poll] } : State).requests = .poll :: [] ∧ loadKeyDue.resetLine = false := by
  decide

theorem witness_StepRunsTheInstructionThatStandsNext_write :
    loadKeyDue.tx = some (buildLoadKey .B 0x01 keyA0) ∧
    decodeOn .sent (buildLoadKey .B 0x01 keyA0) = .ok (.cmdLoadKey .B 0x01 keyA0) ∧
    decodeOn .sent sMin = .err .noCommand ∧ (busy .poll .rtWrite [] .ok .ok []).tx = none := by decide

theorem witness_StepRunsTheInstructionThatStandsNext_received :
    (ending .readBlock b16).transport.waitAnswer = .timedOut ∧
    decodeOn .received b16 = .ok (.rspSuccess 0x19 0x00 0x3E ([0x14, 0xDF, 0x78, 0x11, 0xA5] ++ blockD)) ∧
    wrapperIn .success b16 = some (0xA5 :: blockD) ∧
    decodeOn .received bCm = .ok (.rspSuccess 0x19 0x00 0x3E ([0x14, 0xDF, 0x78, 0x11, 0xA9] ++ blockD)) ∧
    (∀ rest, wrapperIn .success bCm ≠ some (0xA5 :: rest)) ∧
    wrapperIn .error e08 = some [0xB0, 0x00, 0x00, 0x08] ∧ wrapperIn .error sMin = none ∧
    decodeOn .received lkBad = .err (.notResponse .lrcMismatch) := by
  refine ⟨by decide, by decide, by decide, by decide, ?_, by decide, by decide, by decide⟩
  intro rest h
  rw [show wrapperIn .success bCm = some (0xA9 :: blockD) by decide] at h
  injection h with h
  injection h with h
  exact absurd h (by decide)

theorem witness_PlacedWordIsRunNext :
    decodeTableWord 64 0x03C601FF3E000402 = none ∧
    decodeTableWord 64 0x03C603FF3E000402 = some (.rspError 0x04 0x00 0x3E []) ∧
    decodeTableWord 48 0x1110A50378DF = some (.valReadBlockData [0x10, 0x11]) ∧
    decodeTableWord 24 0x0078DF = some (.valError []) := by decide

theorem witness_DecodeOfEncodeIsTheInstruction :
    (Instr.cmdLoadKey .B 0xFF keyFF).wellFormed = true ∧ (Instr.cmdLoadKey .B 0xFF keyFF).channel = some .sent ∧
    encode (.cmdLoadKey .B 0xFF keyFF) = some (buildLoadKey .B 0xFF keyFF) ∧
    (Instr.rspMalformed 0xFF 0xFF 0xFF 0xFF 0x02 []).wellFormed = true ∧
    (Instr.valError []).wellFormed = true ∧ encode (.valError []) = some [0xDF, 0x78, 0x00] := by decide

theorem witness_EncodeOfDecodeIsTheBytes :
    decodeOn .sent (buildReadBlock 0xFF) = .ok (.cmdReadBlock 0xFF) ∧
    decodeOn .received mal = .ok (.rspMalformed 0x04 0x00 0x3E 0xFF 0x02 []) ∧
    decodeOn .successValue [0xDF, 0x78, 0x01, 0xA5] = .ok (.valReadBlockData []) ∧
    decodeOn .errorValue [0xDF, 0x78, 0x00] = .ok (.valError []) := by decide

theorem witness_CommandRowsDoNotOverlap :
    rowAuthenticate ∈ commandRows ∧ rowAuthenticate.matchesAll (buildAuthenticate .B 0x01 0x27) = true := by decide

theorem witness_LrcIsTheXorOfTheBytes : ([0x01, 0x02, 0x04] : Bytes).Perm [0x04, 0x01, 0x02] := by decide

theorem witness_EncodeBuildsTheFrame :
    (List.replicate 253 (0 : Byte)).length ≤ 253 ∧ 253 < (List.replicate 254 (0 : Byte)).length := by
  simp only [List.length_replicate]; decide

theorem witness_DecodeTestsInOrder :
    (sMin.take 7).length < 8 ∧ 8 ≤ sMin.length ∧ sMin[0]? = some 0x02 ∧ sMin[sMin.length - 1]? = some 0x03 ∧
    sMin[sMin.length - 2]? = some (((sMin.drop 1).take (sMin.length - 3)).foldl (fun acc x => acc ^^^ x) 0) ∧
    lkBad[lkBad.length - 2]? ≠ some (((lkBad.drop 1).take (lkBad.length - 3)).foldl (fun acc x => acc ^^^ x) 0) ∧
    (0x12 :: sMin.drop 1)[0]? ≠ some 0x02 := by decide

theorem witness_DecodeOfEncodedFrame :
    ([0xAA] : Bytes).length < 2 ∧ 2 ≤ ([0x56, 0x78] : Bytes).length ∧ ([0x56, 0x78] : Bytes).length ≤ 253 := by decide

theorem witness_OneCorruptByteIsDetected :
    decodeFrame sMin = .ok (frameOf sMin) ∧ 7 < sMin.length ∧ sMin[0]? ≠ some 0x03 ∧ sMin[1]? ≠ some 0x05 ∧
    sMin[6]? ≠ some 0xC5 ∧ sMin[7]? ≠ some 0x02 ∧ 6 ≤ sMin.length - 2 ∧ 7 = sMin.length - 1 := by decide

theorem witness_CancellingCorruptionIsNotDetected :
    decodeFrame sMin = .ok (frameOf sMin) ∧ [0x02, 0x05, 0x00, 0x3E, 0xFF, 0x01, 0xC5, 0x03].length = sMin.length ∧
    sMin[0]? = some 0x02 ∧ sMin[sMin.length - 1]? = some 0x03 ∧
    (List.zipWith (fun x y => x ^^^ y) sMin [0x02, 0x05, 0x00, 0x3E, 0xFF, 0x01, 0xC5, 0x03]).foldl
      (fun acc x => acc ^^^ x) 0 = 0 := by decide

theorem witness_FoundValueEndsBeforeTheLrc :
    (frameOf b16).isDecoded = true ∧
    tlvFind 0xDF 0x78 (templatePayload (frameOf b16)) = some (0xA5 :: blockD) := by decide

theorem witness_ClassifyReadsTheMarker : (frameOf mal).isDecoded = true := by decide

theorem witness_CardInfoIsFourSearches :
    (frameOf ciPart).isDecoded = true ∧ (frameOf ciPart).raw[4]? = some 0xFF ∧ (frameOf ciPart).raw[5]? = some 0x01 ∧
    (frameOf ciErr).isDecoded = true ∧ ¬ ((frameOf ciErr).raw[4]? = some 0xFF ∧ (frameOf ciErr).raw[5]? = some 0x01) := by
  decide

/-- The search of the two parsers. -/
def foundIn (b : Bytes) : Option Bytes := tlvFind 0xDF 0x78 ((b.drop 6).take (b.length - 8))

theorem witness_BlockDataTestsInOrder :
    ((frameOf e08).isDecoded = true ∧ classify (frameOf e08) ≠ .success) ∧
    ((frameOf bNoTag).isDecoded = true ∧ classify (frameOf bNoTag) = .success ∧ foundIn bNoTag = none) ∧
    (classify (frameOf bEmpty) = .success ∧ foundIn bEmpty = some [] ∧ ([] : Bytes).head? ≠ some 0xA5) ∧
    (classify (frameOf b10) = .success ∧ foundIn b10 = some (0xA5 :: blockD.take 10) ∧ (blockD.take 10).length < 16) ∧
    (classify (frameOf b16) = .success ∧ foundIn b16 = some (0xA5 :: (blockD ++ [])) ∧ blockD.length = 16) := by
  decide

theorem witness_ErrorCodeTestsInOrder :
    ((frameOf sMin).isDecoded = true ∧ classify (frameOf sMin) ≠ .error) ∧
    (classify (frameOf eMin) = .error ∧ foundIn eMin = none) ∧
    (classify (frameOf eShort) = .error ∧ foundIn eShort = some [0xB0, 0x00, 0x00] ∧
      ([0xB0, 0x00, 0x00] : Bytes).length < 4) ∧
    (classify (frameOf e08) = .error ∧ foundIn e08 = some [0xB0, 0x00, 0x00, 0x08]) := by decide

theorem witness_UnitOperationsReadAndWriteNoState :
    (∀ p i d, UnitCall.lrc [] = .encode p i d → d.length ≤ 253) ∧ 253 < (List.replicate 254 (0 : Byte)).length :=
  ⟨nofun, by simp only [List.length_replicate]; decide⟩

theorem witness_requests_in_ready :
    State.reset.seq = .ready ∧ (0x01 : Byte).toNat ≤ 1 ∧ (0x27 : Byte).toNat ≤ 39 ∧ 1 < (0x02 : Byte).toNat ∧
    39 < (0x28 : Byte).toNat := by decide

theorem witness_RequestPresentedWhileBusyIsHeld : loadKeyDue.seq = .busy .authenticate .rtWrite := rfl

theorem witness_BusyStepTakesNoRequest :
    loadKeyDue.seq ≠ .ready ∧ ∃ t es, step loadKeyDue = .next t ∧ t.trace = loadKeyDue.trace ++ es :=
  ⟨by decide, _, [_], rfl, rfl⟩

theorem witness_RoundTripAdvancesPhaseByPhase :
    (loadKeyDue.seq = .busy .authenticate .rtWrite ∧ loadKeyDue.transport.writeAnswer = .ok) ∧
    ((readBlockWaits .ok).tinit = some .readBlock ∧ (readBlockWaits .ok).transport.waitAnswer = .ok) ∧
    (boundedRead .rtReadInit [0, 0, 0, 0]).rx.length + (boundedRead .rtReadInit [0, 0, 0, 0]).transport.chunk.length ≤ 8 ∧
    8 < (boundedRead .rtReadTrail [0, 0, 0, 0, 0]).rx.length
      + (boundedRead .rtReadTrail [0, 0, 0, 0, 0]).transport.chunk.length ∧
    (boundedRead .rtReadTrail []).cfg.rxCapacity = some 8 ∧
    (busy .poll .rtWaitTrail [] .ok .ok []).transport.waitAnswer = .ok := by decide

theorem witness_TransportFailureEndsTheOperation :
    (pollWriteFails.seq = .busy .poll .rtWrite ∧ pollWriteFails.tx = some buildPoll ∧
      pollWriteFails.transport.writeAnswer = .writeError) ∧
    ((readBlockWaits .timedOut).seq = .busy .readBlock .rtWaitInit ∧ (readBlockWaits .timedOut).tinit = some .readBlock ∧
      (readBlockWaits .timedOut).transport.waitAnswer = .timedOut) ∧
    (loadKeyWriteFails.seq = .busy .authenticate .rtWrite ∧
      loadKeyWriteFails.tx = some (buildLoadKey .B 0x01 keyA0) ∧ loadKeyWriteFails.transport.writeAnswer = .writeError ∧
      loadKeyWriteFails.session = some (sessionIn .loadingKey) ∧ (sessionIn .loadingKey).state = .loadingKey) := by decide

theorem witness_UnwrittenElementsFault :
    ((busy .poll .rtWrite [] .ok .ok []).tx = none ∧ (busy .poll .rtWaitInit [] .ok .ok []).tinit = none) ∧
    ((endingAuth .idle []).session = some (sessionIn .idle) ∧ (sessionIn .idle).state ≠ .loadingKey ∧
      (sessionIn .idle).state ≠ .authenticating ∧ (endingAuth .idle []).transport.waitAnswer = .timedOut) ∧
    (ending .authenticate []).session = none := by decide

theorem witness_PollReportsTheResponse :
    (ending .poll ciPart).seq = .busy .poll .rtWaitTrail ∧ (ending .poll ciPart).transport.waitAnswer = .timedOut ∧
    decodeFrame ciPart = .ok (frameOf ciPart) ∧ decodeFrame (ending .poll lkBad).rx = .err .lrcMismatch := by decide

theorem witness_ReadBlockReportsTheResponse :
    (ending .readBlock b16).seq = .busy .readBlock .rtWaitTrail ∧ decodeFrame b16 = .ok (frameOf b16) ∧
    parseBlockData (frameOf b16) = .ok blockD ∧ decodeFrame b10 = .ok (frameOf b10) ∧
    parseBlockData (frameOf b10) = .err .shortData ∧ decodeFrame lkBad = .err .lrcMismatch := by decide

theorem witness_round_trips_of_authenticate (x : AuthState) (rx : Bytes) :
    (endingAuth x rx).seq = .busy .authenticate .rtWaitTrail ∧ (endingAuth x rx).transport.waitAnswer = .timedOut ∧
    (endingAuth x rx).session = some (sessionIn x) ∧ (sessionIn x).state = x ∧ (endingAuth x rx).rx = rx :=
  ⟨rfl, rfl, rfl, rfl, rfl⟩

/-- The responses of each arm of R194 and R197. -/
theorem witness_responses_of_authenticate :
    decodeFrame lkBad = .err .lrcMismatch ∧
    (decodeFrame lkOk = .ok (frameOf lkOk) ∧ classify (frameOf lkOk) = .success) ∧
    (decodeFrame e08 = .ok (frameOf e08) ∧ classify (frameOf e08) = .error ∧
      parseErrorCode (frameOf e08) = .ok (0x08, "authentication failed (wrong key/sector)")) ∧
    (decodeFrame eShort = .ok (frameOf eShort) ∧ parseErrorCode (frameOf eShort) = .err .missingTag) ∧
    (decodeFrame mal = .ok (frameOf mal) ∧ classify (frameOf mal) = .malformed) := by decide

theorem witness_CommandFramesAreSentFromTx :
    (Instr.cmdLoadKey .B 0x01 keyA0).channel = some .sent ∧ encode (.cmdLoadKey .B 0x01 keyA0) = loadKeyDue.tx ∧
    loadKeyDue.seq = .busy .authenticate .rtWrite ∧ loadKeyDue.transport.writeAnswer = .ok ∧
    encode .cmdPoll = some buildPoll ∧ loadKeyDue.tx ≠ some buildPoll ∧
    (Instr.cmdReadBlock 0x04).channel = some .sent ∧ (Instr.cmdAuthenticate .A 0x00 0x00).channel = some .sent := by decide

/-- The response forms in RX: with and without a DF78 value that READ BLOCK or the workflow can use. -/
theorem witness_response_forms :
    encode (.rspSuccess 0x0C 0x00 0x3E [0x07, 0xDF, 0x0D, 0x04, 0xA1, 0xB2, 0xC3, 0xD4]) = some ciPart ∧
    encode (.rspError 0x04 0x00 0x3E []) = some eMin ∧ tlvFind 0xDF 0x78 [] = none ∧
    encode (.rspMalformed 0x04 0x00 0x3E 0xFF 0x02 []) = some mal ∧
    (Instr.rspMalformed 0x04 0x00 0x3E 0xFF 0x02 []).wellFormed = true ∧
    encode (.rspError 0x0B 0x00 0x3E [0x06, 0xDF, 0x78, 0x03, 0xB0, 0x00, 0x00]) = some eShort ∧
    tlvFind 0xDF 0x78 [0x06, 0xDF, 0x78, 0x03, 0xB0, 0x00, 0x00] = some [0xB0, 0x00, 0x00] ∧
    encode (.rspError 0x0C 0x00 0x3E [0x07, 0xDF, 0x78, 0x04, 0xB0, 0x00, 0x00, 0x08]) = some e08 ∧
    tlvFind 0xDF 0x78 [0x07, 0xDF, 0x78, 0x04, 0xB0, 0x00, 0x00, 0x08] = some [0xB0, 0x00, 0x00, 0x08] := by decide

theorem witness_ResponseFormsEndReadBlock :
    (encode (.rspSuccess 0x08 0x00 0x3E [0x03, 0xDF, 0x16, 0x00]) = some bNoTag ∧
      tlvFind 0xDF 0x78 [0x03, 0xDF, 0x16, 0x00] = none) ∧
    (encode (.rspSuccess 0x08 0x00 0x3E [0x03, 0xDF, 0x78, 0x00]) = some bEmpty ∧
      tlvFind 0xDF 0x78 [0x03, 0xDF, 0x78, 0x00] = some []) ∧
    (encode (.rspSuccess 0x13 0x00 0x3E ([0x0E, 0xDF, 0x78, 0x0B, 0xA5] ++ blockD.take 10)) = some b10 ∧
      tlvFind 0xDF 0x78 ([0x0E, 0xDF, 0x78, 0x0B, 0xA5] ++ blockD.take 10) = some (0xA5 :: blockD.take 10)) ∧
    (encode (.rspSuccess 0x19 0x00 0x3E ([0x14, 0xDF, 0x78, 0x11, 0xA5] ++ blockD)) = some b16 ∧
      tlvFind 0xDF 0x78 ([0x14, 0xDF, 0x78, 0x11, 0xA5] ++ blockD) = some (0xA5 :: blockD) ∧ 16 ≤ blockD.length) := by
  decide

theorem witness_BlockValueEndsReadBlock :
    (wrapperIn .success (ending .readBlock b16).rx = some (0xA5 :: blockD) ∧ 16 ≤ blockD.length) ∧
    (wrapperIn .success (ending .readBlock b10).rx = some (0xA5 :: blockD.take 10) ∧ (blockD.take 10).length < 16) := by
  decide

theorem witness_ErrorValueFailsTheAttempt :
    wrapperIn .error (endingAuth .loadingKey e08).rx = some [0xB0, 0x00, 0x00, 0x08] ∧
    wrapperIn .error (endingAuth .authenticating eShort).rx = some [0xB0, 0x00, 0x00] := by decide

theorem witness_BytesOutsideAnAssemblyStayInTheTransport :
    ((Instr.rspSuccess 0x04 0x00 0x3E []).channel = some .received ∧ encode (.rspSuccess 0x04 0x00 0x3E []) = some sMin) ∧
    (∀ op, State.reset.seq ≠ .busy op .rtWaitTrail) ∧
    (busy .poll .rtWaitTrail [] .ok .ok []).transport.waitAnswer = .ok := ⟨by decide, nofun, by decide⟩

theorem witness_WireFormsRefineRoundTrip :
    loadKeyDue.seq = .busy .authenticate .rtWrite ∧
    phaseInstr .authenticate .rtWrite loadKeyDue = .cmdLoadKey .B 0x01 keyA0 ∧
    phaseInstr .readBlock .rtWaitTrail (ending .readBlock b16) = .valReadBlockData blockD := by decide

/-- A state that meets the invariant, the two ledgers and the premises of the rules of the whole machine: LOAD KEY
about to be sent. -/
def loadKeyAccepted : State :=
  { loadKeyDue with trace := [.accept (.authenticate .B 0x01 0x27 keyA0), .notify .idle .loadingKey] }

theorem witness_invariant_and_ledgers :
    Invariant loadKeyAccepted ∧ ReportLedger loadKeyAccepted ∧ WriteLedger loadKeyAccepted ∧
    (∃ t, step loadKeyAccepted = .next t) :=
  ⟨by show State.invariant _ = true; decide, by show outstanding _ = 1; decide, by show attemptWrites _ = tripsBefore _; decide, _, rfl⟩

/-- The refusals that InvariantStatesStepSafely allows. -/
theorem witness_InvariantStatesStepSafely :
    Invariant { State.reset with units := [.encode 0x00 0x3E (List.replicate 254 0)] } ∧
    Invariant { boundedRead .rtReadTrail [0, 0, 0, 0, 0] with tx := some (buildReadBlock 0x04), tinit := some .readBlock } :=
  ⟨rfl, by show State.invariant _ = true; decide⟩

/-- A step that ends an attempt, with its report. -/
theorem witness_steps_that_report :
    (∃ t es, step (endingAuth .loadingKey lkBad) = .next t ∧ t.trace = (endingAuth .loadingKey lkBad).trace ++ es ∧
      PortEvent.report (.auth (.failed (.protocolError .lrcMismatch))) ∈ es) ∧
    (endingAuth .loadingKey lkBad).seq ≠ .ready ∧
    (∃ t es, step { State.reset with requests := [.authenticate .A 0x02 0x00 keyFF] } = .next t ∧
      t.trace = State.reset.trace ++ es ∧ PortEvent.report (.auth (.failed .invalidParameter)) ∈ es) :=
  ⟨⟨_, _, rfl, rfl, by decide⟩, by decide, ⟨_, _, rfl, rfl, by decide⟩⟩

/-- AttemptWriteCounts in its three cases: the first and the second round trip about to end, and a bad request. -/
theorem witness_AttemptWriteCounts :
    WriteLedger { endingAuth .loadingKey lkBad with trace := [.write [] 100 .ok] } ∧
    WriteLedger { endingAuth .authenticating lkOk with trace := [.write [] 100 .ok, .write [] 100 .ok] } ∧
    WriteLedger { State.reset with requests := [.authenticate .A 0x02 0x00 keyFF] } :=
  ⟨by show attemptWrites _ = tripsBefore _ + 1; decide, by show attemptWrites _ = tripsBefore _ + 1; decide, trivial⟩

theorem witness_OnlyReadsTakeBytesFromTheTransport :
    ∃ t, step (busy .poll .rtReadInit [] .ok .ok sMin) = .next t ∧ t.transport.reads = [] := ⟨_, rfl, rfl⟩

theorem witness_SessionKeyIsNotReadAgain :
    loadKeyDue.seq ≠ .ready ∧ (loadKeyDue.withKey keyFF).session ≠ loadKeyDue.session := by decide

theorem witness_AssemblyCanHang :
    (busy .poll .rtWaitTrail [] .ok .ok []).units = [] ∧ (busy .poll .rtWaitTrail [] .ok .ok []).resetLine = false ∧
    (busy .poll .rtWaitTrail [] .ok .ok sMin).cfg.rxCapacity = none ∧
    (busy .poll .rtWaitTrail [] .ok .ok sMin).transport.waits = List.replicate [sMin].length .ok ++ [] ∧
    (busy .poll .rtWaitTrail [] .ok .ok sMin).transport.reads = [sMin] ++ [] := by decide

theorem witness_TrailingTimeoutEndsTheRoundTrip :
    Invariant { ending .poll sMin with tx := some buildPoll, tinit := some .poll } ∧
    Invariant { endingAuth .loadingKey lkOk with tx := some (buildLoadKey .B 0x01 keyA0), tinit := some .loadKey } :=
  ⟨by show State.invariant _ = true; decide, by show State.invariant _ = true; decide⟩

end Sys2Proof.Tests
end

section
/-! The wire forms at work in a step, what a step can do, and the statements on the state (10_state.md). -/

namespace Sys2Proof.Machine

/-! ## The instruction of a phase does what ROUND_TRIP does (R220, R224) -/

theorem execRoundTrip_rtWrite {s : State} {op : Op} {b : Bytes} (hs : s.seq = .busy op .rtWrite)
    (htx : s.tx = some b) : execRoundTrip s = writePhase op b s := by
  simp [execRoundTrip, hs, htx]

theorem execRoundTrip_rtWaitInit {s : State} {op : Op} {i : InitWait} (hs : s.seq = .busy op .rtWaitInit)
    (hti : s.tinit = some i) : execRoundTrip s = waitInitPhase op i s := by
  simp [execRoundTrip, hs, hti]

theorem execRoundTrip_timedOut {s : State} {op : Op} (hs : s.seq = .busy op .rtWaitTrail)
    (ha : s.transport.waitAnswer = .timedOut) : execRoundTrip s = complete op (.ok s.rx) s.endAssembly := by
  simp [execRoundTrip, hs, waitTrailPhase, ha]

theorem assemblyEnds_timedOut {s : State} {op : Op} (hs : s.seq = .busy op .rtWaitTrail)
    (ha : s.transport.waitAnswer = .timedOut) : s.assemblyEnds = some op := by
  simp [State.assemblyEnds, hs, ha]

theorem complete_decoded {op : Op} {b : Bytes} {f : Frame} (hd : decodeFrame b = .ok f) (s : State) :
    complete op (.ok b) s = completeFrame op (classify f) f s := by
  simp [complete, hd]

/-- R24: the frame that TX holds is written. -/
theorem sendFrame_due {s : State} {op : Op} {b : Bytes} (hs : s.seq = .busy op .rtWrite) (htx : s.tx = some b) :
    sendFrame b s = execRoundTrip s := by
  rw [execRoundTrip_rtWrite hs htx]
  simp [sendFrame, hs, htx]

/-- R82 to R85: whatever command TX decodes to is the frame TX holds. -/
theorem exec_decodeCommand {s : State} {op : Op} {b : Bytes} {i : Instr} (hs : s.seq = .busy op .rtWrite)
    (htx : s.tx = some b) (hd : decodeCommand b = .ok i) : exec i s = execRoundTrip s := by
  rcases decodeCommand_cases hd with ⟨rfl, rfl⟩ | ⟨blk, rfl, rfl⟩ | ⟨kt, kn, k, rfl, rfl⟩ | ⟨kt, kn, sc, rfl, rfl⟩
  all_goals exact sendFrame_due hs htx

theorem wrapperIn_some {t : Template} {b v : Bytes} (h : wrapperIn t b = some v) :
    ∃ f, decodeFrame b = .ok f ∧ classify f = t ∧ findWrapper f = some v := by
  unfold wrapperIn at h
  cases hd : decodeFrame b with
  | err e => simp [hd] at h
  | ok f =>
    rw [hd] at h
    simp only [Option.ite_none_right_eq_some] at h
    exact ⟨f, rfl, h⟩

theorem parseBlockData_value {f : Frame} {v : Bytes} (hc : classify f = .success) (hw : findWrapper f = some v) :
    parseBlockData f = blockValueTest v := by
  simp [parseBlockData, hc, hw]

/-- R163: the reason that an error value gives is the one of the response that carries it. -/
theorem reasonOfErrorCode_value {f : Frame} {v : Bytes} (hc : classify f = .error) (hw : findWrapper f = some v) :
    reasonOfErrorCode (parseErrorCode f) = errorValueReason v := by
  unfold parseErrorCode errorValueReason
  simp only [hc, hw, ne_eq, not_true_eq_false, if_false]
  cases errorValueTest v <;> rfl

/-- R194, R197: an Error response ends both round trips of AUTHENTICATE alike. -/
theorem completeAttempt_error (f : Frame) (s : State) :
    completeAttempt .error f s =
      s.inAttempt fun ss => .next (s.endAuth ss (.failed (reasonOfErrorCode (parseErrorCode f)))) := by
  simp [completeAttempt, completeLoadKey, completeAuthenticate]

section AssemblyEnds

variable {s : State} {op : Op}

theorem receiveFrame_completes {t : Template} {f : Frame} (hs : s.seq = .busy op .rtWaitTrail)
    (ha : s.transport.waitAnswer = .timedOut) (hd : decodeFrame s.rx = .ok f) (ht : classify f = t) :
    receiveFrame t f s = execRoundTrip s := by
  rw [execRoundTrip_timedOut hs ha, complete_decoded hd, ht]
  simp [receiveFrame, assemblyEnds_timedOut hs ha, raw_of_decodeFrame hd]

/-- R80: the response in RX, as the instruction it decodes to. -/
theorem exec_decodeResponse {i : Instr} (hs : s.seq = .busy op .rtWaitTrail)
    (ha : s.transport.waitAnswer = .timedOut) (hi : decodeResponse s.rx = .ok i) : exec i s = execRoundTrip s := by
  obtain ⟨l, p, n, m0, m1, tp, -, hd, ⟨ht, rfl⟩ | ⟨ht, rfl⟩ | ⟨ht, rfl⟩⟩ := decodeResponse_cases hi
  · obtain ⟨rfl, rfl⟩ := templateOf_eq_success.1 ht
    exact receiveFrame_completes hs ha hd rfl
  · obtain ⟨rfl, rfl⟩ := templateOf_eq_error.1 ht
    exact receiveFrame_completes hs ha hd rfl
  · exact receiveFrame_completes hs ha hd ht

/-- R162: the block value in RX's Success response. -/
theorem exec_blockValue {rest : Bytes} (hs : s.seq = .busy .readBlock .rtWaitTrail)
    (ha : s.transport.waitAnswer = .timedOut) (hw : wrapperIn .success s.rx = some (0xA5 :: rest)) :
    exec (.valReadBlockData rest) s = execRoundTrip s := by
  obtain ⟨f, hd, hc, hf⟩ := wrapperIn_some hw
  rw [execRoundTrip_timedOut hs ha, complete_decoded hd, completeFrame, parseBlockData_value hc hf]
  exact if_pos ⟨assemblyEnds_timedOut hs ha, hw⟩

/-- R163: the error value in RX's Error response. -/
theorem exec_errorValue {v : Bytes} (hs : s.seq = .busy .authenticate .rtWaitTrail)
    (ha : s.transport.waitAnswer = .timedOut) (hw : wrapperIn .error s.rx = some v) :
    exec (.valError v) s = execRoundTrip s := by
  obtain ⟨f, hd, hc, hf⟩ := wrapperIn_some hw
  rw [execRoundTrip_timedOut hs ha, complete_decoded hd, completeFrame, hc, completeAttempt_error,
    reasonOfErrorCode_value hc hf]
  exact if_pos ⟨assemblyEnds_timedOut hs ha, hw⟩

theorem exec_receivedForm (hs : s.seq = .busy op .rtWaitTrail) (ha : s.transport.waitAnswer = .timedOut) :
    exec (receivedForm op s.rx) s = execRoundTrip s := by
  unfold receivedForm
  cases hi : decodeResponse s.rx with
  | err e => rfl
  | ok i =>
    have whole : exec i s = execRoundTrip s := exec_decodeResponse hs ha hi
    cases op with
    | poll => exact whole
    | readBlock =>
      match hw : wrapperIn .success s.rx with
      | none => exact whole
      | some [] => exact whole
      | some (e :: rest) =>
        by_cases he : e = 0xA5
        · subst he
          exact exec_blockValue hs ha hw
        · simpa only [if_neg he] using whole
    | authenticate =>
      match hw : wrapperIn .error s.rx with
      | none => exact whole
      | some v => exact exec_errorValue hs ha hw

end AssemblyEnds

/-- R220: the wire forms that a step runs refine ROUND_TRIP. -/
theorem exec_phaseInstr {s : State} {op : Op} {ph : Phase} (hs : s.seq = .busy op ph) :
    exec (phaseInstr op ph s) s = execRoundTrip s := by
  cases ph with
  | rtWrite =>
    unfold phaseInstr
    cases htx : s.tx with
    | none => rfl
    | some b =>
      cases hd : decodeCommand b with
      | err e => simp only [hd]; rfl
      | ok i => simpa only [hd] using exec_decodeCommand hs htx hd
  | rtWaitTrail =>
    by_cases ha : s.transport.waitAnswer = .timedOut
    · simpa only [phaseInstr, if_pos ha] using exec_receivedForm hs ha
    · simp only [phaseInstr, if_neg ha]; rfl
  | rtWaitInit => rfl
  | rtReadInit => rfl
  | rtReadTrail => rfl

/-! ## What a step can do (R224, R225, R265, R281) -/

section Step

variable {s : State}

theorem step_reset (hr : s.resetLine = true) : step s = .next s.abandon := if_pos hr

theorem step_unit {u : UnitCall} {us : List UnitCall} (hr : s.resetLine = false) (hu : s.units = u :: us) :
    step s = exec u.toInstr { s with units := us } := by
  simp [step, fetch, hr, hu]

theorem step_busy {op : Op} {ph : Phase} (hr : s.resetLine = false) (hu : s.units = []) (hs : s.seq = .busy op ph) :
    step s = execRoundTrip s := by
  simpa [step, fetch, hr, hu, hs] using exec_phaseInstr hs

theorem step_request {q : Request} {qs : List Request} (hr : s.resetLine = false) (hu : s.units = [])
    (hs : s.seq = .ready) (hq : s.requests = q :: qs) : step s = exec q.toInstr { s with requests := qs } := by
  simp [step, fetch, hr, hu, hs, hq]

theorem step_idle (hr : s.resetLine = false) (hu : s.units = []) (hs : s.seq = .ready) (hq : s.requests = []) :
    step s = .next s := by
  simp [step, fetch, hr, hu, hs, hq]

/-- What the next step takes, in the order of `fetch`; reset comes before all of it. -/
inductive Takes (s : State) : Prop where
  | reset (hr : s.resetLine = true)
  | unit (u : UnitCall) (us : List UnitCall) (hr : s.resetLine = false) (hu : s.units = u :: us)
  | phase (op : Op) (ph : Phase) (hr : s.resetLine = false) (hu : s.units = []) (hs : s.seq = .busy op ph)
  | request (q : Request) (qs : List Request) (hr : s.resetLine = false) (hu : s.units = []) (hs : s.seq = .ready)
      (hq : s.requests = q :: qs)
  | idle (hr : s.resetLine = false) (hu : s.units = []) (hs : s.seq = .ready) (hq : s.requests = [])

theorem takes (s : State) : Takes s := by
  cases hr : s.resetLine with
  | true => exact .reset hr
  | false =>
    cases hu : s.units with
    | cons u us => exact .unit u us hr hu
    | nil =>
      cases hs : s.seq with
      | busy op ph => exact .phase op ph hr hu hs
      | ready =>
        cases hq : s.requests with
        | cons q qs => exact .request q qs hr hu hs hq
        | nil => exact .idle hr hu hs hq

/-- Everything a step that answers a next state can do. -/
inductive StepsTo (s : State) : State → Prop where
  | reset (hr : s.resetLine = true) : StepsTo s s.abandon
  | unit (us : List UnitCall) (r : UnitResult) : StepsTo s ({ s with units := us }.giveResult r)
  | trip (op : Op) (ph : Phase) (t : State) (hs : s.seq = .busy op ph) (ht : TripStep s op ph t) : StepsTo s t
  | request (q : Request) (qs : List Request) (t : State) (hs : s.seq = .ready)
      (ht : Accepts { s with requests := qs } q t) : StepsTo s t
  | idle (hs : s.seq = .ready) : StepsTo s s

theorem step_next {t : State} (h : step s = .next t) : StepsTo s t := by
  cases takes s with
  | reset hr =>
    rw [step_reset hr] at h
    cases h
    exact .reset hr
  | unit u us hr hu =>
    rw [step_unit hr hu] at h
    rcases exec_unit u with ⟨r, he⟩ | ⟨p, i, d, -, -, he⟩
    · rw [he] at h
      cases h
      exact .unit us r
    · rw [he] at h
      cases h
  | phase op ph hr hu hs =>
    rw [step_busy hr hu hs] at h
    exact .trip op ph t hs (execRoundTrip_next hs h)
  | request q qs hr hu hs hq =>
    obtain ⟨t', he, ha⟩ := exec_request_ready (s := { s with requests := qs }) hs q
    rw [step_request hr hu hs hq, he] at h
    cases h
    exact .request q qs t hs ha
  | idle hr hu hs hq =>
    rw [step_idle hr hu hs hq] at h
    cases h
    exact .idle hs

end Step

/-! ## The start of AUTHENTICATE's second round trip, field by field (R195) -/

section KeyLoaded

variable (ss : Session) (s : State)

@[simp] theorem State.keyLoaded_seq : (s.keyLoaded ss).seq = .busy .authenticate .rtWrite := rfl
@[simp] theorem State.keyLoaded_rx : (s.keyLoaded ss).rx = [] := rfl
@[simp] theorem State.keyLoaded_session : (s.keyLoaded ss).session = some { ss with state := .authenticating } := rfl
@[simp] theorem State.keyLoaded_tx :
    (s.keyLoaded ss).tx = some (buildAuthenticate ss.keyType ss.keyNumber ss.sector) := rfl
@[simp] theorem State.keyLoaded_tinit : (s.keyLoaded ss).tinit = some .authenticate := rfl
@[simp] theorem State.keyLoaded_cfg : (s.keyLoaded ss).cfg = s.cfg := rfl
@[simp] theorem State.keyLoaded_trace :
    (s.keyLoaded ss).trace =
      s.trace ++ notification ss.state .keyLoaded ++ notification .keyLoaded .authenticating := rfl

end KeyLoaded

/-! ## The invariant (R22 to R25) -/

theorem invariant_iff_of_ready {s : State} (hs : s.seq = .ready) :
    Invariant s ↔ s.rx = [] ∧ s.session = none := by
  simp [Invariant, State.invariant, hs]

/-- What the invariant says of SESSION, TX and TINIT in a round trip of `op`. -/
structure TripFits (op : Op) (s : State) : Prop where
  session : sessionFits op s.session = true
  tx      : txFits op s.session s.tx = true
  tinit   : s.tinit = tripWait op s.session

theorem tripFits_iff (op : Op) (s : State) : TripFits op s ↔
    sessionFits op s.session = true ∧ txFits op s.session s.tx = true ∧ s.tinit = tripWait op s.session :=
  ⟨fun ⟨hss, htx, hti⟩ => ⟨hss, htx, hti⟩, fun ⟨hss, htx, hti⟩ => ⟨hss, htx, hti⟩⟩

theorem invariant_iff_of_busy {s : State} {op : Op} {ph : Phase} (hs : s.seq = .busy op ph) :
    Invariant s ↔ rxFits ph s.rx = true ∧ (s.rx = [] ∨ s.cfg.fits s.rx.length = true) ∧ TripFits op s := by
  simp [Invariant, State.invariant, hs, tripFits_iff, and_assoc]

/-- With RX empty, the invariant asks nothing of it in any phase. -/
theorem invariant_of_empty_rx {s : State} {op : Op} {ph : Phase} (hs : s.seq = .busy op ph) (hrx : s.rx = [])
    (hf : TripFits op s) : Invariant s := by
  refine (invariant_iff_of_busy hs).2 ⟨?_, .inl hrx, hf⟩
  rw [hrx]
  cases ph <;> rfl

theorem session_none_of_fits {op : Op} {x : Option Session} (h : sessionFits op x = true) (hop : op ≠ .authenticate) :
    x = none := by
  cases x with
  | none => rfl
  | some ss =>
    cases op with
    | poll => cases h
    | readBlock => cases h
    | authenticate => exact absurd rfl hop

theorem parametersValid_of_fits {ss : Session} (h : sessionFits .authenticate (some ss) = true) :
    parametersValid ss.keyNumber ss.sector = true := by
  simp only [sessionFits, Bool.and_eq_true] at h
  exact h.1

/-! Each round trip starts with the session, the command and the wait that are its operation's. -/

theorem tripFits_poll {s : State} (hss : s.session = none) : TripFits .poll (s.startRoundTrip buildPoll .poll .poll) where
  session := by simp [hss, sessionFits]
  tx      := by simp [txFits, decodeCommand_buildPoll, commandFits]
  tinit   := rfl

theorem tripFits_readBlock {s : State} (b : Byte) (hss : s.session = none) :
    TripFits .readBlock (s.startRoundTrip (buildReadBlock b) .readBlock .readBlock) where
  session := by simp [hss, sessionFits]
  tx      := by simp [txFits, decodeCommand_buildReadBlock, commandFits]
  tinit   := rfl

theorem tripFits_loadKey {s : State} {ss : Session} (hv : parametersValid ss.keyNumber ss.sector = true) :
    TripFits .authenticate ((s.setAuth ss .loadingKey).startRoundTrip
      (buildLoadKey ss.keyType ss.keyNumber ss.key) .loadKey .authenticate) where
  session := by simp [sessionFits, hv]
  tx      := by simp [txFits, decodeCommand_buildLoadKey, commandFits]
  tinit   := rfl

theorem tripFits_keyLoaded {s : State} {ss : Session} (hv : parametersValid ss.keyNumber ss.sector = true) :
    TripFits .authenticate (s.keyLoaded ss) where
  session := by simp [sessionFits, hv]
  tx      := by simp [txFits, decodeCommand_buildAuthenticate, commandFits]
  tinit   := rfl

/-- A completion of a round trip whose session fits leads to a state that meets the invariant. -/
theorem Completes.invariant {op : Op} {s t : State} (h : Completes op s t) (hrx : s.rx = [])
    (hf : sessionFits op s.session = true) : Invariant t := by
  cases h with
  | report r hop hr => exact (invariant_iff_of_ready rfl).2 ⟨hrx, session_none_of_fits hf hop⟩
  | auth ss x hop hs hi ht ha => exact (invariant_iff_of_ready rfl).2 ⟨hrx, rfl⟩
  | next ss hop hs hl =>
    subst hop
    rw [hs] at hf
    exact invariant_of_empty_rx rfl rfl (tripFits_keyLoaded (parametersValid_of_fits hf))

theorem TripStep.invariant {s t : State} {op : Op} {ph : Phase} (h : TripStep s op ph t) (hs : s.seq = .busy op ph)
    (hI : Invariant s) : Invariant t := by
  obtain ⟨hrx, hcap, hf⟩ := (invariant_iff_of_busy hs).1 hI
  obtain ⟨hss, htx, hti⟩ := hf
  cases h with
  | wrote b hb ha => exact invariant_of_empty_rx rfl (List.isEmpty_iff.1 hrx) ⟨hss, htx, hti⟩
  | writeFailed b t hb ha hc => exact hc.invariant rfl hss
  | waited i hb ha => exact invariant_of_empty_rx rfl (List.isEmpty_iff.1 hrx) ⟨hss, htx, hti⟩
  | waitFailed i t hb ha hc => exact hc.invariant rfl hss
  | read ph hp hfit =>
    refine (invariant_iff_of_busy rfl).2 ⟨rfl, .inr ?_, hss, htx, hti⟩
    simpa using hfit
  | trailing ha => exact (invariant_iff_of_busy rfl).2 ⟨rfl, hcap, hss, htx, hti⟩
  | assembled t ha hc => exact hc.invariant rfl hss

theorem Accepts.invariant {s t : State} {q : Request} (h : Accepts s q t) (hs : s.seq = .ready) (hI : Invariant s) :
    Invariant t := by
  obtain ⟨hrx, hss⟩ := (invariant_iff_of_ready hs).1 hI
  cases h with
  | poll => exact invariant_of_empty_rx rfl rfl (tripFits_poll hss)
  | readBlock b => exact invariant_of_empty_rx rfl rfl (tripFits_readBlock b hss)
  | auth kt kn sc k hv => exact invariant_of_empty_rx rfl rfl (tripFits_loadKey (ss := ⟨kt, kn, sc, k, .idle⟩) hv)
  | invalid kt kn sc k hv => exact (invariant_iff_of_ready rfl).2 ⟨hrx, rfl⟩

/-- Settles O47, by what a step can do: only a round trip's transaction and an acceptance write the five elements. -/
theorem stepKeepsTheInvariant : Obligations.StepKeepsTheInvariant := by
  intro s t hI h
  cases step_next h with
  | reset hr => exact (invariant_iff_of_ready rfl).2 ⟨rfl, rfl⟩
  | unit us r => exact hI
  | trip op ph t hs ht => exact ht.invariant hs hI
  | request q qs t hs ht => exact ht.invariant hs hI
  | idle hs => exact hI

/-! ## Outputs and parameters stand (R26, R57) -/

/-- What `s` has put out is a first part of what `t` has, and the parameters are the same. -/
def Prolongs (s t : State) : Prop := s.trace <+: t.trace ∧ t.cfg = s.cfg

theorem Prolongs.trans {s t u : State} (h : Prolongs s t) (h' : Prolongs t u) : Prolongs s u :=
  ⟨h.1.trans h'.1, h'.2.trans h.2⟩

theorem Completes.prolongs {op : Op} {s t : State} (h : Completes op s t) : Prolongs s t := by
  cases h with
  | report r hop hr => simp [Prolongs]
  | auth ss x hop hs hi ht ha => simp [Prolongs]
  | next ss hop hs hl => simp [Prolongs]

theorem TripStep.prolongs {s t : State} {op : Op} {ph : Phase} (h : TripStep s op ph t) : Prolongs s t := by
  cases h with
  | wrote b hb ha => simp [Prolongs]
  | writeFailed b t hb ha hc => exact .trans (by simp [Prolongs]) hc.prolongs
  | waited i hb ha => simp [Prolongs]
  | waitFailed i t hb ha hc => exact .trans (by simp [Prolongs]) hc.prolongs
  | read ph hp hfit => simp [Prolongs]
  | trailing ha => simp [Prolongs]
  | assembled t ha hc => exact .trans (by simp [Prolongs]) hc.prolongs

theorem Accepts.prolongs {s t : State} {q : Request} (h : Accepts s q t) : Prolongs s t := by
  cases h with
  | poll => simp [Prolongs]
  | readBlock b => simp [Prolongs]
  | auth kt kn sc k hv => simp [Prolongs]
  | invalid kt kn sc k hv => simp [Prolongs]

theorem StepsTo.prolongs {s t : State} (h : StepsTo s t) : Prolongs s t := by
  cases h with
  | reset hr => simp [Prolongs]
  | unit us r => simp [Prolongs]
  | trip op ph t hs ht => exact ht.prolongs
  | request q qs t hs ht => exact ht.prolongs
  | idle hs => simp [Prolongs]

/-- Settles O55: every update a step is made of appends to the record, and none writes the parameters. -/
theorem outputsAndParametersStand : Obligations.OutputsAndParametersStand := by
  intro s t h
  obtain ⟨⟨es, he⟩, hc⟩ := (step_next h).prolongs
  exact ⟨⟨es, he.symm⟩, hc⟩

/-! ## Another past (R20, R26): the updates commute with it, and the tests do not see it -/

section Past

@[simp] theorem Answer.map_next (g : State → State) (s : State) : Answer.map g (.next s) = .next (g s) := rfl
@[simp] theorem Answer.map_fault (g : State → State) (r : Fault) : Answer.map g (.fault r) = .fault r := rfl
@[simp] theorem Answer.map_refused (g : State → State) (r : Refusal) : Answer.map g (.refused r) = .refused r := rfl

variable (past : List PortEvent) (s : State)

@[simp] theorem State.withPast_seq : (s.withPast past).seq = s.seq := rfl
@[simp] theorem State.withPast_rx : (s.withPast past).rx = s.rx := rfl
@[simp] theorem State.withPast_session : (s.withPast past).session = s.session := rfl
@[simp] theorem State.withPast_tx : (s.withPast past).tx = s.tx := rfl
@[simp] theorem State.withPast_tinit : (s.withPast past).tinit = s.tinit := rfl
@[simp] theorem State.withPast_cfg : (s.withPast past).cfg = s.cfg := rfl
@[simp] theorem State.withPast_transport : (s.withPast past).transport = s.transport := rfl
@[simp] theorem State.withPast_trace : (s.withPast past).trace = past ++ s.trace := rfl

@[simp] theorem State.emit_withPast (e : PortEvent) : (s.withPast past).emit e = (s.emit e).withPast past := by
  simp [State.emit, State.withPast]

@[simp] theorem State.giveResult_withPast (r : UnitResult) :
    (s.withPast past).giveResult r = (s.giveResult r).withPast past := State.emit_withPast past s (.result r)

@[simp] theorem State.setAuth_withPast (ss : Session) (x : AuthState) :
    (s.withPast past).setAuth ss x = (s.setAuth ss x).withPast past := by
  simp [State.setAuth, State.withPast]

@[simp] theorem State.endWithReport_withPast (r : Report) :
    (s.withPast past).endWithReport r = (s.endWithReport r).withPast past := by
  simp [State.endWithReport, State.withPast]

@[simp] theorem State.endAuth_withPast (ss : Session) (x : AuthState) :
    (s.withPast past).endAuth ss x = (s.endAuth ss x).withPast past := by
  simp [State.endAuth, State.withPast]

@[simp] theorem State.doWrite_withPast (b : Bytes) : (s.withPast past).doWrite b = (s.doWrite b).withPast past := by
  simp [State.doWrite, State.withPast]

@[simp] theorem State.doWait_withPast (t : Timeout) : (s.withPast past).doWait t = (s.doWait t).withPast past := by
  simp [State.doWait, State.withPast]

@[simp] theorem State.doRead_withPast : (s.withPast past).doRead = s.doRead.withPast past := by
  simp [State.doRead, State.withPast]

@[simp] theorem State.abandon_withPast : (s.withPast past).abandon = s.abandon.withPast past := by
  simp [State.abandon, State.withPast]

@[simp] theorem State.startRoundTrip_withPast (pkt : Bytes) (t : InitWait) (op : Op) :
    (s.withPast past).startRoundTrip pkt t op = (s.startRoundTrip pkt t op).withPast past := rfl

@[simp] theorem State.toPhase_withPast (op : Op) (ph : Phase) :
    (s.withPast past).toPhase op ph = (s.toPhase op ph).withPast past := rfl

@[simp] theorem State.clearRx_withPast : (s.withPast past).clearRx = s.clearRx.withPast past := rfl

@[simp] theorem State.endAssembly_withPast : (s.withPast past).endAssembly = s.endAssembly.withPast past := by
  simp [State.endAssembly]

@[simp] theorem State.keyLoaded_withPast (ss : Session) :
    (s.withPast past).keyLoaded ss = (s.keyLoaded ss).withPast past := by
  simp [State.keyLoaded]

theorem inAttempt_withPast {k k' : Session → Answer}
    (hk : ∀ ss, k' ss = Answer.map (State.withPast past) (k ss)) :
    (s.withPast past).inAttempt k' = Answer.map (State.withPast past) (s.inAttempt k) := by
  unfold State.inAttempt
  cases hs : s.session with
  | none => simp [hs]
  | some ss => cases hst : ss.state <;> simp [hs, hst, hk]

theorem takeFailure_withPast (op : Op) (x : TripFailure) :
    (s.withPast past).takeFailure op x = Answer.map (State.withPast past) (s.takeFailure op x) := by
  cases op with
  | poll => simp [State.takeFailure]
  | readBlock => simp [State.takeFailure]
  | authenticate => exact inAttempt_withPast past s fun ss => by simp

theorem completeLoadKey_withPast (t : Template) (f : Frame) (ss : Session) :
    completeLoadKey t f ss (s.withPast past) = (completeLoadKey t f ss s).withPast past := by
  cases t <;> simp [completeLoadKey]

theorem completeAuthenticate_withPast (t : Template) (f : Frame) (ss : Session) :
    completeAuthenticate t f ss (s.withPast past) = (completeAuthenticate t f ss s).withPast past := by
  cases t <;> simp [completeAuthenticate]

theorem completeFrame_withPast (op : Op) (t : Template) (f : Frame) :
    completeFrame op t f (s.withPast past) = Answer.map (State.withPast past) (completeFrame op t f s) := by
  cases op with
  | poll => simp [completeFrame]
  | readBlock => simp [completeFrame]
  | authenticate =>
    refine inAttempt_withPast past s fun ss => ?_
    split <;> simp [completeLoadKey_withPast, completeAuthenticate_withPast]

theorem complete_withPast (op : Op) (r : Result Bytes TransportError) :
    complete op r (s.withPast past) = Answer.map (State.withPast past) (complete op r s) := by
  cases r with
  | err e => exact takeFailure_withPast past s op _
  | ok buf =>
    unfold complete
    cases hd : decodeFrame buf with
    | err fe => simpa only [hd] using takeFailure_withPast past s op _
    | ok f => simpa only [hd] using completeFrame_withPast past s op _ f

theorem writePhase_withPast (op : Op) (pkt : Bytes) :
    writePhase op pkt (s.withPast past) = Answer.map (State.withPast past) (writePhase op pkt s) := by
  unfold writePhase
  cases ha : s.transport.writeAnswer <;> simp [ha, complete_withPast]

theorem waitInitPhase_withPast (op : Op) (t : InitWait) :
    waitInitPhase op t (s.withPast past) = Answer.map (State.withPast past) (waitInitPhase op t s) := by
  unfold waitInitPhase
  cases ha : s.transport.waitAnswer <;> simp [ha, complete_withPast]

theorem readPhase_withPast (op : Op) :
    readPhase op (s.withPast past) = Answer.map (State.withPast past) (readPhase op s) := by
  unfold readPhase
  cases hf : s.cfg.fits (s.rx.length + s.transport.chunk.length) with
  | false => simp [hf]
  | true => simp [hf, State.withPast, State.doRead, State.toPhase]

theorem waitTrailPhase_withPast (op : Op) :
    waitTrailPhase op (s.withPast past) = Answer.map (State.withPast past) (waitTrailPhase op s) := by
  unfold waitTrailPhase
  cases ha : s.transport.waitAnswer <;> simp [ha, complete_withPast]

theorem execRoundTrip_withPast :
    execRoundTrip (s.withPast past) = Answer.map (State.withPast past) (execRoundTrip s) := by
  unfold execRoundTrip
  cases hs : s.seq with
  | ready => simp [hs]
  | busy op ph =>
    cases ph with
    | rtWrite => cases htx : s.tx <;> simp [hs, htx, writePhase_withPast]
    | rtWaitInit => cases hti : s.tinit <;> simp [hs, hti, waitInitPhase_withPast]
    | rtReadInit => simp [hs, readPhase_withPast]
    | rtWaitTrail => simp [hs, waitTrailPhase_withPast]
    | rtReadTrail => simp [hs, readPhase_withPast]

theorem exec_unit_withPast (u : UnitCall) :
    exec u.toInstr (s.withPast past) = Answer.map (State.withPast past) (exec u.toInstr s) := by
  rcases exec_unit u with ⟨r, he⟩ | ⟨p, i, d, -, -, he⟩
  · simp [he]
  · simp [he]

theorem exec_request_withPast (hs : s.seq = .ready) (q : Request) :
    exec q.toInstr (s.withPast past) = Answer.map (State.withPast past) (exec q.toInstr s) := by
  cases q with
  | poll => simp [Request.toInstr, exec, execOpPoll, hs]
  | readBlock b => simp [Request.toInstr, exec, execOpReadBlock, hs]
  | authenticate kt kn sc k =>
    cases hv : parametersValid kn sc <;> simp [Request.toInstr, exec, execOpAuthenticate, hs, hv]

/-- Settles O58: both runs take the same thing, and each instruction commutes with the earlier outputs. -/
theorem stepDoesNotReadItsOutputs : Obligations.StepDoesNotReadItsOutputs := by
  intro s past
  cases takes s with
  | reset hr =>
    rw [step_reset hr, step_reset (s := s.withPast past) hr]
    simp
  | unit u us hr hu =>
    rw [step_unit hr hu, step_unit (s := s.withPast past) hr hu]
    exact exec_unit_withPast past { s with units := us } u
  | phase op ph hr hu hs =>
    rw [step_busy hr hu hs, step_busy (s := s.withPast past) hr hu hs]
    exact execRoundTrip_withPast past s
  | request q qs hr hu hs hq =>
    rw [step_request hr hu hs hq, step_request (s := s.withPast past) hr hu hs hq]
    exact exec_request_withPast past { s with requests := qs } hs q
  | idle hr hu hs hq =>
    rw [step_idle hr hu hs hq, step_idle (s := s.withPast past) hr hu hs hq]
    rfl

end Past

/-! ## Unit operations (R36, R111) -/

/-- Settles O25, by the two ways a unit operation can answer. -/
theorem unitOperationsReadAndWriteNoState : Obligations.UnitOperationsReadAndWriteNoState := by
  intro u
  rcases exec_unit u with ⟨r, he⟩ | ⟨p, i, d, rfl, hlong, he⟩
  · refine ⟨fun _ => ⟨r, he⟩, ?_⟩
    rintro p i d rfl hlong s
    simp [UnitCall.toInstr, exec, execEncode, encodeFrame, hlong]
  · exact ⟨fun hshort => absurd (hshort p i d rfl) (by omega), fun _ _ _ _ _ => he⟩

/-! ## Reads of absent and unwritten elements (U3) -/

theorem inAttempt_absent {s : State} (k : Session → Answer) (hs : s.session = none) :
    s.inAttempt k = .fault .sessionAbsent := by
  simp [State.inAttempt, hs]

theorem inAttempt_outside {s : State} {ss : Session} (k : Session → Answer) (hs : s.session = some ss)
    (hr : ¬ InRoundTrip ss) : s.inAttempt k = .fault .completionUndefined := by
  simp only [InRoundTrip, not_or] at hr
  unfold State.inAttempt
  rw [hs]
  cases hst : ss.state <;> simp_all

/-- R220: whatever ends a round trip of AUTHENTICATE, its completion reads SESSION.state first. -/
theorem complete_authenticate (r : Result Bytes TransportError) (s : State) :
    ∃ k, complete .authenticate r s = s.inAttempt k := by
  cases r with
  | err e => exact ⟨_, rfl⟩
  | ok buf =>
    simp only [complete]
    cases decodeFrame buf with
    | err fe => exact ⟨_, rfl⟩
    | ok f => exact ⟨_, rfl⟩

/-- A round trip of AUTHENTICATE ends with the next transaction: the three ways of R220. -/
def AttemptTripEnds (s : State) : Prop :=
  (s.seq = .busy .authenticate .rtWrite ∧ s.tx ≠ none ∧ s.transport.writeAnswer = .writeError) ∨
  (s.seq = .busy .authenticate .rtWaitInit ∧ s.tinit ≠ none ∧ s.transport.waitAnswer = .timedOut) ∨
  (s.seq = .busy .authenticate .rtWaitTrail ∧ s.transport.waitAnswer = .timedOut)

theorem execRoundTrip_attemptEnds {s : State} (h : AttemptTripEnds s) :
    ∃ (k : Session → Answer) (s1 : State), s1.session = s.session ∧ execRoundTrip s = s1.inAttempt k := by
  have ends (r : Result Bytes TransportError) (s1 : State) (he : execRoundTrip s = complete .authenticate r s1)
      (hss : s1.session = s.session) : ∃ k s1, State.session s1 = s.session ∧ execRoundTrip s = s1.inAttempt k := by
    obtain ⟨k, hk⟩ := complete_authenticate r s1
    exact ⟨k, s1, hss, he.trans hk⟩
  rcases h with ⟨hs, htx, ha⟩ | ⟨hs, hti, ha⟩ | ⟨hs, ha⟩
  · obtain ⟨b, htx⟩ := Option.ne_none_iff_exists'.1 htx
    exact ends (.err .writeTimeout) (s.doWrite b).clearRx (by simp [execRoundTrip_rtWrite hs htx, writePhase, ha]) rfl
  · obtain ⟨i, hti⟩ := Option.ne_none_iff_exists'.1 hti
    exact ends (.err .readTimeout) (s.doWait (.init i)).clearRx
      (by simp [execRoundTrip_rtWaitInit hs hti, waitInitPhase, ha]) rfl
  · exact ends _ _ (execRoundTrip_timedOut hs ha) rfl

/-- Settles O33: TX and TINIT are what their phases read first, and a completion reads SESSION.state first. -/
theorem unwrittenElementsFault : Obligations.UnwrittenElementsFault := by
  intro op s
  refine ⟨fun hs htx => by simp [exec, execRoundTrip, hs, htx],
    fun hs hti => by simp [exec, execRoundTrip, hs, hti], fun hends => ?_⟩
  obtain ⟨k, s1, hss, he⟩ := execRoundTrip_attemptEnds hends
  refine ⟨fun hnone => ?_, fun ss hsome hl ha => ?_⟩
  · exact he.trans (inAttempt_absent k (hss.trans hnone))
  · exact he.trans (inAttempt_outside k (hss.trans hsome) (not_or.2 ⟨hl, ha⟩))

end Sys2Proof.Machine
end

section
/-! The bytes the transport holds (20_memory.md): what takes them, and what leaves them there. -/

namespace Sys2Proof.Machine

/-! ## Only a read takes bytes (R56, R58) -/

@[simp] theorem State.keyLoaded_transport (ss : Session) (s : State) :
    (s.keyLoaded ss).transport = s.transport := rfl

/-- R220: a completion is no transaction. -/
theorem Completes.transport {op : Op} {s t : State} (h : Completes op s t) : t.transport = s.transport := by
  cases h with
  | report r hop hr => simp
  | auth ss x hop hs hi ht ha => simp
  | next ss hop hs hl => simp

/-- R225: neither is the acceptance of a request. -/
theorem Accepts.transport {s t : State} {q : Request} (h : Accepts s q t) : t.transport = s.transport := by
  cases h with
  | poll => simp
  | readBlock b => simp
  | auth kt kn sc k hv => simp
  | invalid kt kn sc k hv => simp

/-- R56: the read of `s` takes the first chunk into `t` and is its one output. -/
def ReadsChunk (s t : State) : Prop :=
  t.transport.reads = s.transport.reads.tail ∧ t.trace = s.trace ++ [.read s.transport.chunk]

/-- R56: of the transactions of a round trip, a write and a wait leave the bytes, and a read takes the first chunk. -/
theorem TripStep.reads {s t : State} {op : Op} {ph : Phase} (h : TripStep s op ph t) :
    t.transport.reads = s.transport.reads ∨ (ph = .rtReadInit ∨ ph = .rtReadTrail) ∧ ReadsChunk s t := by
  cases h with
  | wrote b hb ha => exact .inl (by simp)
  | writeFailed b t hb ha hc => exact .inl (by simp [hc.transport])
  | waited i hb ha => exact .inl (by simp)
  | waitFailed i t hb ha hc => exact .inl (by simp [hc.transport])
  | read ph hp hfit => exact .inr ⟨hp, by simp [ReadsChunk]⟩
  | trailing ha => exact .inl (by simp)
  | assembled t ha hc => exact .inl (by simp [hc.transport])

/-- Settles O56, by what a step can do: only the transactions of a round trip reach the transport, and of them only a
read takes bytes. -/
theorem onlyReadsTakeBytesFromTheTransport : Obligations.OnlyReadsTakeBytesFromTheTransport := by
  intro s t h
  cases step_next h with
  | reset hr => exact .inl (by simp)
  | unit us r => exact .inl (by simp)
  | trip op ph t hs ht =>
    rcases ht.reads with hsame | ⟨rfl | rfl, hread⟩
    · exact .inl hsame
    · exact .inr ⟨⟨op, .inl hs⟩, hread⟩
    · exact .inr ⟨⟨op, .inr hs⟩, hread⟩
  | request q qs t hs ht => exact .inl (by rw [ht.transport])
  | idle hs => exact .inl rfl

/-! ## Received forms outside an assembly's end (R31, R58, R257; log 8) -/

section NoAssemblyEnds

variable {s : State}

theorem assemblyEnds_eq_none (h : (∀ op, s.seq ≠ .busy op .rtWaitTrail) ∨ s.transport.waitAnswer = .ok) :
    s.assemblyEnds = none := by
  unfold State.assemblyEnds
  split
  next op hs =>
    rcases h with hno | hok
    · exact absurd hs (hno op)
    · simp [hok]
  all_goals rfl

theorem receiveFrame_held (t : Template) (f : Frame) (hn : s.assemblyEnds = none) :
    receiveFrame t f s = .next (s.heldByTransport f.raw) := by
  simp [receiveFrame, hn]

theorem execValReadBlockData_held (rest : Bytes) (hn : s.assemblyEnds = none) :
    execValReadBlockData rest s = .next (s.heldByTransport (tlvElement 0xDF 0x78 (0xA5 :: rest))) := by
  simp [execValReadBlockData, hn]

theorem execValError_held (v : Bytes) (hn : s.assemblyEnds = none) :
    execValError v s = .next (s.heldByTransport (tlvElement 0xDF 0x78 v)) := by
  simp [execValError, hn]

end NoAssemblyEnds

/-- Settles O44: with no assembly ending, each of the five forms is held, and what is held is its encoding. -/
theorem bytesOutsideAnAssemblyStayInTheTransport : Obligations.BytesOutsideAnAssemblyStayInTheTransport := by
  intro i c b s hc hsent hb hquiet
  have hn : s.assemblyEnds = none := assemblyEnds_eq_none hquiet
  cases i with
  | rspSuccess l p n tp => cases hb; exact receiveFrame_held _ _ hn
  | rspError l p n tp => cases hb; exact receiveFrame_held _ _ hn
  | rspMalformed l p n m0 m1 tp => cases hb; exact receiveFrame_held _ _ hn
  | valReadBlockData rest => cases hb; exact execValReadBlockData_held rest hn
  | valError v => cases hb; exact execValError_held v hn
  | cmdPoll | cmdReadBlock | cmdLoadKey | cmdAuthenticate => cases hc; exact absurd rfl hsent
  | _ => cases hb

end Sys2Proof.Machine
end

section
/-! The wire forms of 30_encoding.md: decoder and encoder agree in every place, and what the two value forms end. -/

namespace Sys2Proof

/-! ## The encoder's commands are the builders' frames (R82 to R85) -/

theorem encode_cmdPoll : encode .cmdPoll = some buildPoll := rfl

theorem encode_cmdReadBlock (b : Byte) : encode (.cmdReadBlock b) = some (buildReadBlock b) :=
  congrArg some (buildReadBlock_eq b).symm

theorem encode_cmdLoadKey (kt : KeyType) (kn : Byte) (k : Key) :
    encode (.cmdLoadKey kt kn k) = some (buildLoadKey kt kn k) :=
  congrArg some (buildLoadKey_eq kt kn k).symm

theorem encode_cmdAuthenticate (kt : KeyType) (kn sc : Byte) :
    encode (.cmdAuthenticate kt kn sc) = some (buildAuthenticate kt kn sc) :=
  congrArg some (buildAuthenticate_eq kt kn sc).symm

/-! ## The two value forms are TLV elements (R75, R86) -/

theorem encode_valReadBlockData (rest : Bytes) :
    encode (.valReadBlockData rest) = some (tlvElement 0xDF 0x78 (0xA5 :: rest)) := rfl

theorem encode_valError (v : Bytes) : encode (.valError v) = some (tlvElement 0xDF 0x78 v) := rfl

/-- R75: the bytes `l :: v` have the right length byte exactly if `v` fits one and `l` is what it encodes to. -/
theorem toNat_eq_length_iff (l : Byte) (v : Bytes) :
    l.toNat = v.length ↔ v.length ≤ 255 ∧ l = BitVec.ofNat 8 v.length := by
  constructor
  · intro h
    have hlt := l.isLt
    exact ⟨by omega, by rw [← h, BitVec.ofNat_toNat, BitVec.setWidth_eq]⟩
  · rintro ⟨hle, rfl⟩
    exact toNat_ofNat_of_le hle

/-- R86: what `decodeErrorValue` accepts. -/
theorem decodeErrorValue_eq_ok_iff (b : Bytes) (i : Instr) : decodeErrorValue b = .ok i ↔
    ∃ v, v.length ≤ 255 ∧ i = .valError v ∧ b = tlvElement 0xDF 0x78 v := by
  constructor
  · intro h
    unfold decodeErrorValue at h
    split at h
    next a b l v =>
      split at h
      next hc =>
        obtain ⟨rfl, rfl, hl⟩ := hc
        obtain ⟨hle, rfl⟩ := (toNat_eq_length_iff l v).1 hl
        cases h
        exact ⟨v, hle, rfl, rfl⟩
      next => cases h
    next => cases h
  · rintro ⟨v, hle, rfl, rfl⟩
    exact if_pos ⟨rfl, rfl, toNat_ofNat_of_le hle⟩

/-- R86: what `decodeBlockValue` accepts. -/
theorem decodeBlockValue_eq_ok_iff (b : Bytes) (i : Instr) : decodeBlockValue b = .ok i ↔
    ∃ rest, rest.length ≤ 254 ∧ i = .valReadBlockData rest ∧ b = tlvElement 0xDF 0x78 (0xA5 :: rest) := by
  constructor
  · intro h
    unfold decodeBlockValue at h
    split at h
    next a b l e rest =>
      split at h
      next hc =>
        obtain ⟨rfl, rfl, rfl, hl⟩ := hc
        obtain ⟨hle, rfl⟩ := (toNat_eq_length_iff l (0xA5 :: rest)).1 hl
        cases h
        exact ⟨rest, Nat.le_of_succ_le_succ hle, rfl, rfl⟩
      next => cases h
    next => cases h
  · rintro ⟨rest, hle, rfl, rfl⟩
    exact if_pos ⟨rfl, rfl, rfl, toNat_ofNat_of_le (Nat.succ_le_succ hle)⟩

/-! ## Decode of encode and encode of decode (R70, R80 to R86, R91) -/

/-- Settles O6, form by form: the command's own frame, the response by its marker, the value by its length byte. -/
theorem decodeOfEncodeIsTheInstruction : Obligations.DecodeOfEncodeIsTheInstruction := by
  intro i c b hw hc hb
  cases i with
  | cmdPoll =>
    cases hc
    cases encode_cmdPoll.symm.trans hb
    exact decodeCommand_buildPoll
  | cmdReadBlock blk =>
    cases hc
    cases (encode_cmdReadBlock blk).symm.trans hb
    exact decodeCommand_buildReadBlock blk
  | cmdLoadKey kt kn k =>
    cases hc
    cases (encode_cmdLoadKey kt kn k).symm.trans hb
    exact decodeCommand_buildLoadKey kt kn k
  | cmdAuthenticate kt kn sc =>
    cases hc
    cases (encode_cmdAuthenticate kt kn sc).symm.trans hb
    exact decodeCommand_buildAuthenticate kt kn sc
  | rspSuccess l p n tp =>
    cases hc
    cases hb
    exact decodeResponse_responseBytes l p n 0xFF 0x01 tp
  | rspError l p n tp =>
    cases hc
    cases hb
    exact decodeResponse_responseBytes l p n 0xFF 0x03 tp
  | rspMalformed l p n m0 m1 tp =>
    cases hc
    cases hb
    have hm : templateOf m0 m1 = .malformed := of_decide_eq_true hw
    have hd := decodeResponse_responseBytes l p n m0 m1 tp
    rw [hm] at hd
    exact hd
  | valReadBlockData rest =>
    cases hc
    cases (encode_valReadBlockData rest).symm.trans hb
    exact (decodeBlockValue_eq_ok_iff _ _).2 ⟨rest, of_decide_eq_true hw, rfl, rfl⟩
  | valError v =>
    cases hc
    cases (encode_valError v).symm.trans hb
    exact (decodeErrorValue_eq_ok_iff _ _).2 ⟨v, of_decide_eq_true hw, rfl, rfl⟩
  | _ => cases hb

/-- Settles O7, place by place: whatever the place's decoder answers, with the bytes it answered it for. -/
theorem encodeOfDecodeIsTheBytes : Obligations.EncodeOfDecodeIsTheBytes := by
  intro c b i h
  cases c with
  | sent =>
    rcases decodeCommand_cases h with ⟨rfl, rfl⟩ | ⟨blk, rfl, rfl⟩ | ⟨kt, kn, k, rfl, rfl⟩ | ⟨kt, kn, sc, rfl, rfl⟩
    · exact ⟨rfl, rfl, encode_cmdPoll⟩
    · exact ⟨rfl, rfl, encode_cmdReadBlock blk⟩
    · exact ⟨rfl, rfl, encode_cmdLoadKey kt kn k⟩
    · exact ⟨rfl, rfl, encode_cmdAuthenticate kt kn sc⟩
  | received =>
    obtain ⟨l, p, n, m0, m1, tp, rfl, -, ⟨hm, rfl⟩ | ⟨hm, rfl⟩ | ⟨hm, rfl⟩⟩ := decodeResponse_cases h
    · obtain ⟨rfl, rfl⟩ := templateOf_eq_success.1 hm
      exact ⟨rfl, rfl, rfl⟩
    · obtain ⟨rfl, rfl⟩ := templateOf_eq_error.1 hm
      exact ⟨rfl, rfl, rfl⟩
    · exact ⟨decide_eq_true hm, rfl, rfl⟩
  | successValue =>
    obtain ⟨rest, hle, rfl, rfl⟩ := (decodeBlockValue_eq_ok_iff b i).1 h
    exact ⟨decide_eq_true hle, rfl, encode_valReadBlockData rest⟩
  | errorValue =>
    obtain ⟨v, hle, rfl, rfl⟩ := (decodeErrorValue_eq_ok_iff b i).1 h
    exact ⟨decide_eq_true hle, rfl, encode_valError v⟩

/-- Settles O9: each word is, byte for byte, the encoding of the instruction it stands for. -/
theorem writtenOutWordsDecode : Obligations.WrittenOutWordsDecode := by
  refine ⟨?_, ?_, ?_, ?_, ?_⟩
  all_goals exact decodeOfEncodeIsTheInstruction _ _ _ rfl rfl rfl

/-! ## The command rows (R91) -/

theorem length_of_matchesAll {r : FormRow} {b : Bytes} (h : r.matchesAll b = true) : b.length = r.pattern.length := by
  by_contra hne
  simp [row_not_of_len hne] at h

theorem commandRows_pattern_length_injective :
    ∀ r ∈ commandRows, ∀ r' ∈ commandRows, r.pattern.length = r'.pattern.length → r = r' := by decide

/-- Settles O8: a row matches bytes of its own length only, and no two rows are of one length. -/
theorem commandRowsDoNotOverlap : Obligations.CommandRowsDoNotOverlap := by
  intro b r r' hr hr' hm hm'
  have hlen : r.pattern.length = r'.pattern.length :=
    (length_of_matchesAll hm).symm.trans (length_of_matchesAll hm')
  exact commandRows_pattern_length_injective r hr r' hr' hlen

/-! ## What the tests make of a value (R162, R163) -/

theorem blockValueTest_echo (rest : Bytes) : blockValueTest (0xA5 :: rest) =
    if rest.length < 16 then .err .shortData else .ok (rest.take 16) := by
  simp [blockValueTest, byteAt, slice, blockLen]

end Sys2Proof

namespace Sys2Proof.Machine

theorem errorValueReason_code (v0 v1 v2 c : Byte) (more : Bytes) :
    errorValueReason (v0 :: v1 :: v2 :: c :: more) = .deviceError c (errorMessage c) := by
  have hlong : ¬ (v0 :: v1 :: v2 :: c :: more).length < 4 := by simp
  simp only [errorValueReason, errorValueTest, if_neg hlong]
  rfl

theorem errorValueReason_short {v : Bytes} (h : v.length < 4) : errorValueReason v = .responseFailure .missingTag := by
  simp [errorValueReason, errorValueTest, h]

/-! ## The two value forms where an assembly ends on them (R162, R163, R223, R194, R197) -/

/-- R220: the end of assembly, with the answer that makes it one. -/
theorem endAssembly_timedOut {s : State} (ha : s.transport.waitAnswer = .timedOut) :
    s.endAssembly = { s with
      rx := []
      transport := { s.transport with waits := s.transport.waits.tail, draws := s.transport.draws + 1 }
      trace := s.trace ++ [.wait .trail s.cfg.tTrail .timedOut] } := by
  rw [← ha]
  rfl

theorem notification_failed {ss : Session} (hr : InRoundTrip ss) (r : FailReason) :
    notification ss.state (.failed r) = [.notify ss.state (.failed r)] := by
  apply notification_change
  rcases hr with h | h <;> simp [h]

/-- R199: a failed attempt is notified, reported and discarded. -/
theorem endAuth_failed {ss : Session} (hr : InRoundTrip ss) (r : FailReason) (s : State) :
    s.endAuth ss (.failed r) = { s with
      seq := .ready, session := none
      trace := s.trace ++ [.notify ss.state (.failed r), .report (.auth (.failed r))] } := by
  simp [State.endAuth, notification_failed hr]

theorem exec_blockValue_reports {s : State} {rest : Bytes} (hs : s.seq = .busy .readBlock .rtWaitTrail)
    (ha : s.transport.waitAnswer = .timedOut) (hw : wrapperIn .success s.rx = some (0xA5 :: rest)) :
    exec (.valReadBlockData rest) s =
      .next (s.endAssembly.endWithReport (.readBlock (readBlockResult (blockValueTest (0xA5 :: rest))))) :=
  if_pos ⟨assemblyEnds_timedOut hs ha, hw⟩

theorem exec_errorValue_fails {s : State} {v : Bytes} {ss : Session} (hs : s.seq = .busy .authenticate .rtWaitTrail)
    (ha : s.transport.waitAnswer = .timedOut) (hw : wrapperIn .error s.rx = some v) (hss : s.session = some ss)
    (hr : InRoundTrip ss) :
    exec (.valError v) s = .next (s.endAssembly.endAuth ss (.failed (errorValueReason v))) :=
  (if_pos ⟨assemblyEnds_timedOut hs ha, hw⟩ : execValError v s = _).trans (inAttempt_eq _ hss hr)

/-- Settles O42: the report is R162's test of the value, which turns on the 16 bytes after the echo. -/
theorem blockValueEndsReadBlock : Obligations.BlockValueEndsReadBlock := by
  rintro rest s s1 hs ha hw rfl
  rw [exec_blockValue_reports hs ha hw, blockValueTest_echo, endAssembly_timedOut ha]
  refine ⟨fun hlong => ?_, fun hshort => ?_⟩
  · rw [if_neg (Nat.not_lt.2 hlong)]
    rfl
  · rw [if_pos hshort]
    rfl

/-- Settles O43: the attempt fails for the value's own reason, which turns on its fourth byte. -/
theorem errorValueFailsTheAttempt : Obligations.ErrorValueFailsTheAttempt := by
  rintro v s s1 ss hs ha hw hss hr rfl fails
  have hfails : fails (errorValueReason v) := by
    refine (exec_errorValue_fails hs ha hw hss hr).trans ?_
    rw [endAuth_failed hr, endAssembly_timedOut ha]
  refine ⟨?_, fun hshort => ?_⟩
  · rintro v0 v1 v2 c more rfl
    exact errorValueReason_code v0 v1 v2 c more ▸ hfails
  · exact errorValueReason_short hshort ▸ hfails

end Sys2Proof.Machine
end

section
/-! The packet codec (40_packet_codec.md): the checksum's algebra, ENCODE's frame, DECODE's tests, and what corruption
of an accepted frame the checksum finds. -/

namespace Sys2Proof

/-! ## The checksum is an XOR (R110) -/

theorem lrcOf_perm {b b' : Bytes} (h : b.Perm b') : lrcOf b = lrcOf b' :=
  h.foldl_eq' (fun x _ y _ z => by rw [BitVec.xor_assoc, BitVec.xor_comm x y, BitVec.xor_assoc]) _

theorem lrcOf_cons_pair (x : Byte) (b : Bytes) : lrcOf (x :: x :: b) = lrcOf b := by simp

/-- The checksum of the bytewise differences is the difference of the checksums. -/
theorem lrcOf_zipWith_xor {b b' : Bytes} (h : b.length = b'.length) :
    lrcOf (List.zipWith (fun x y => x ^^^ y) b b') = lrcOf b ^^^ lrcOf b' := by
  induction b generalizing b' with
  | nil =>
    obtain rfl := List.eq_nil_of_length_eq_zero h.symm
    rfl
  | cons x b ih =>
    match b', h with
    | y :: b', h =>
      rw [List.zipWith_cons_cons, lrcOf_cons, ih (Nat.succ.inj h), lrcOf_cons, lrcOf_cons]
      ac_rfl

/-- R117: one changed byte changes the checksum. -/
theorem lrcOf_set_ne {b : Bytes} {i : Nat} {x : Byte} (hi : i < b.length) (hx : b[i]? ≠ some x) :
    lrcOf (b.set i x) ≠ lrcOf b := by
  intro h
  rw [lrcOf_set b i b[i] x (List.getElem?_eq_getElem hi), BitVec.xor_assoc] at h
  have hzero : b[i] ^^^ x = 0#8 := (BitVec.xor_right_inj (lrcOf b)).1 (by rw [h, BitVec.xor_zero])
  exact hx (by rw [List.getElem?_eq_getElem hi, BitVec.xor_eq_zero_iff.1 hzero])

/-- R72: over a whole buffer, exactly the right LRC cancels the bytes it covers. -/
theorem lrcOf_ends_eq_iff (x y z : Byte) (c : Bytes) : lrcOf (x :: (c ++ [y, z])) = x ^^^ z ↔ lrcOf c = y := by
  have hsum : lrcOf (x :: (c ++ [y, z])) = (x ^^^ z) ^^^ (lrcOf c ^^^ y) := by
    simp only [lrcOf_cons, lrcOf_append, lrcOf_nil, BitVec.ofNat_eq_ofNat, BitVec.xor_zero]
    ac_rfl
  rw [hsum, ← BitVec.xor_eq_zero_iff (x := lrcOf c), ← BitVec.xor_right_inj (x ^^^ z) (y := 0#8), BitVec.xor_zero]

theorem lrcOf_sealFrame (c : Bytes) : lrcOf (sealFrame c) = stx ^^^ etx := (lrcOf_ends_eq_iff stx _ etx c).2 rfl

/-! ## ENCODE (R111, R112) -/

theorem encodeFrame_of_le (p i : Byte) {d : Bytes} (h : d.length ≤ 253) :
    encodeFrame p i d = some (frameBytes p i d) := if_neg (Nat.not_lt.2 h)

theorem encodeFrame_of_lt (p i : Byte) {d : Bytes} (h : 253 < d.length) : encodeFrame p i d = none := if_pos h

/-- R112 byte by byte; LEN counts PCB, INS and DATA. -/
theorem frameBytes_eq (p i : Byte) (d : Bytes) :
    frameBytes p i d = [0x02, BitVec.ofNat 8 (2 + d.length), p, i] ++ d ++
      [lrcOf (BitVec.ofNat 8 (2 + d.length) :: p :: i :: d), 0x03] := by
  rw [Nat.add_comm]
  rfl

@[simp] theorem length_frameBytes (p i : Byte) (d : Bytes) : (frameBytes p i d).length = 6 + d.length := by
  simp [frameBytes]
  omega

/-! ## DECODE on a buffer by its ends (R113, R114) -/

theorem decodeFrame_of_frameTest {b : Bytes} {e : FrameError} (h : frameTest b = some e) : decodeFrame b = .err e := by
  simp [decodeFrame, h]

theorem decodeFrame_tooShort {b : Bytes} (h : b.length < 8) : decodeFrame b = .err .tooShort :=
  decodeFrame_of_frameTest (if_pos h)

section Ends

variable {x y z : Byte} {c : Bytes}

theorem decodeFrame_badBoundary (hc : 5 ≤ c.length) (h : x ≠ stx ∨ z ≠ etx) :
    decodeFrame (x :: (c ++ [y, z])) = .err .badBoundary :=
  decodeFrame_of_frameTest (by rw [frameTest_ends, if_neg (Nat.not_lt.2 hc), if_pos h])

theorem decodeFrame_lrcMismatch (hc : 5 ≤ c.length) (h : lrcOf c ≠ y) :
    decodeFrame (stx :: (c ++ [y, etx])) = .err .lrcMismatch :=
  decodeFrame_of_frameTest (by rw [frameTest_ends, if_neg (Nat.not_lt.2 hc), if_neg (by simp), if_pos h])

theorem getElem?_lrc_of_ends : (x :: (c ++ [y, z]))[c.length + 1]? = some y := by simp

theorem getElem?_last_of_ends : (x :: (c ++ [y, z]))[c.length + 2]? = some z := by simp

theorem take_covered_of_ends : ((x :: (c ++ [y, z])).drop 1).take c.length = c := by simp

end Ends

/-- R113: DECODE accepts only sealed buffers that cover LEN, PCB, INS and at least two DATA bytes. -/
theorem decodeFrame_sealed {b : Bytes} {f : Frame} (h : decodeFrame b = .ok f) :
    ∃ c, 5 ≤ c.length ∧ b = sealFrame c := by
  obtain ⟨l, p, i, data, hd, rfl, -⟩ := decodeFrame_ok h
  exact ⟨l :: p :: i :: data, Nat.add_le_add_right hd 3, rfl⟩

/-- R113: the frame that DECODE makes of a sealed buffer, by position. -/
theorem decodeFrame_sealFrame_by_position {c : Bytes} (hc : 5 ≤ c.length) :
    ∃ l p i, (sealFrame c)[1]? = some l ∧ (sealFrame c)[2]? = some p ∧ (sealFrame c)[3]? = some i ∧
      decodeFrame (sealFrame c) = .ok
        { raw := sealFrame c, lenField := l, pcb := p, ins := i,
          data := ((sealFrame c).drop 4).take (c.length + 3 - 6) } := by
  match c, hc with
  | l :: p :: i :: data, hc =>
    have hdata : ((sealFrame (l :: p :: i :: data)).drop 4).take data.length = data := by simp [sealFrame]
    refine ⟨l, p, i, rfl, rfl, rfl, ?_⟩
    rw [decodeFrame_sealFrame l p i data (Nat.le_of_add_le_add_right (b := 3) hc), openFrame]
    exact congrArg _ (congrArg _ hdata.symm)

theorem decodeFrame_accepts_sealFrame {c : Bytes} (hc : 5 ≤ c.length) : ∃ f, decodeFrame (sealFrame c) = .ok f := by
  obtain ⟨l, p, i, -, -, -, hok⟩ := decodeFrame_sealFrame_by_position hc
  exact ⟨_, hok⟩

theorem decodeFrame_frameBytes (p i : Byte) {d : Bytes} (h : 2 ≤ d.length) :
    decodeFrame (frameBytes p i d) = .ok (openFrame (BitVec.ofNat 8 (d.length + 2)) p i d) :=
  decodeFrame_sealFrame _ p i d h

theorem decodeFrame_frameBytes_short (p i : Byte) {d : Bytes} (h : d.length < 2) :
    decodeFrame (frameBytes p i d) = .err .tooShort :=
  decodeFrame_tooShort (by rw [length_frameBytes]; omega)

/-! ## A sealed buffer with one byte changed (R117) -/

section Corrupt

variable {c : Bytes} {x : Byte}

theorem decodeFrame_set_first (hc : 5 ≤ c.length) (hx : (sealFrame c)[0]? ≠ some x) :
    decodeFrame ((sealFrame c).set 0 x) = .err .badBoundary :=
  decodeFrame_badBoundary hc (.inl fun h => hx (congrArg some h.symm))

theorem decodeFrame_set_covered {j : Nat} (hc : 5 ≤ c.length) (hj : j < c.length)
    (hx : (sealFrame c)[j + 1]? ≠ some x) : decodeFrame ((sealFrame c).set (j + 1) x) = .err .lrcMismatch := by
  have hset : (sealFrame c).set (j + 1) x = stx :: (c.set j x ++ [lrcOf c, etx]) := by
    simp [sealFrame, hj]
  have hne : lrcOf (c.set j x) ≠ lrcOf c := by
    refine lrcOf_set_ne hj fun h => hx ?_
    rw [sealFrame, List.getElem?_cons_succ, List.getElem?_append_left hj, h]
  rw [hset]
  exact decodeFrame_lrcMismatch (by simpa using hc) hne

theorem decodeFrame_set_lrc (hc : 5 ≤ c.length) (hx : (sealFrame c)[c.length + 1]? ≠ some x) :
    decodeFrame ((sealFrame c).set (c.length + 1) x) = .err .lrcMismatch := by
  have hset : (sealFrame c).set (c.length + 1) x = stx :: (c ++ [x, etx]) := by simp [sealFrame]
  rw [hset]
  exact decodeFrame_lrcMismatch hc fun h => hx (h ▸ getElem?_lrc_of_ends)

theorem decodeFrame_set_last (hc : 5 ≤ c.length) (hx : (sealFrame c)[c.length + 2]? ≠ some x) :
    decodeFrame ((sealFrame c).set (c.length + 2) x) = .err .badBoundary := by
  have hset : (sealFrame c).set (c.length + 2) x = stx :: (c ++ [lrcOf c, x]) := by simp [sealFrame]
  rw [hset]
  exact decodeFrame_badBoundary hc (.inr fun h => hx (h ▸ getElem?_last_of_ends))

end Corrupt

/-- Settles O13: ENCODE's frame is a sealed buffer, which DECODE opens where it is long enough. -/
theorem decodeOfEncodedFrame : Obligations.DecodeOfEncodedFrame := by
  intro p i d hd
  refine ⟨_, encodeFrame_of_le p i hd, fun h2 => ?_, decodeFrame_frameBytes_short p i⟩
  refine ⟨_, decodeFrame_frameBytes p i h2, rfl, rfl, rfl, rfl, ?_⟩
  rw [Nat.add_comm 2]
  exact toNat_ofNat_of_le (Nat.add_le_add_right hd 2)

/-- Settles O14, by where the changed byte stands: STX, a covered byte, the LRC, ETX. -/
theorem oneCorruptByteIsDetected : Obligations.OneCorruptByteIsDetected := by
  intro b f i x hok hi hx
  obtain ⟨c, hc, rfl⟩ := decodeFrame_sealed hok
  rw [length_sealFrame] at hi ⊢
  refine ⟨fun h1 h2 => ?_, ?_⟩
  · obtain ⟨j, rfl⟩ := Nat.exists_eq_add_of_le' h1
    obtain hj | rfl : j < c.length ∨ j = c.length := by omega
    · exact decodeFrame_set_covered hc hj hx
    · exact decodeFrame_set_lrc hc hx
  · rintro (rfl | rfl)
    · exact decodeFrame_set_first hc hx
    · exact decodeFrame_set_last hc hx

/-- Settles O15: the checksum of the differences is zero, so the changed buffer's LRC byte still seals it. -/
theorem cancellingCorruptionIsNotDetected : Obligations.CancellingCorruptionIsNotDetected := by
  intro b b' f hok hlen hfirst hlast hzero
  obtain ⟨c, hc, rfl⟩ := decodeFrame_sealed hok
  have hsame : lrcOf (sealFrame c) = lrcOf b' :=
    BitVec.xor_eq_zero_iff.1 ((lrcOf_zipWith_xor hlen.symm).symm.trans hzero)
  rw [length_sealFrame] at hlen hlast
  obtain ⟨x, c', y, z, rfl⟩ := exists_ends b' (by omega)
  have hc' : c'.length = c.length := by simpa using hlen
  obtain rfl : x = stx := Option.some.inj hfirst
  obtain rfl : z = etx := by
    have hz : (sealFrame c)[c.length + 2]? = some etx := getElem?_last_of_ends
    have hz' : (stx :: (c' ++ [y, z]))[c.length + 2]? = some z := hc' ▸ getElem?_last_of_ends
    exact Option.some.inj (hz'.symm.trans (hlast.trans hz))
  obtain rfl : lrcOf c' = y := (lrcOf_ends_eq_iff stx y etx c').1 (hsame.symm.trans (lrcOf_sealFrame c))
  exact decodeFrame_accepts_sealFrame (hc'.symm ▸ hc)

end Sys2Proof

namespace Sys2Proof.Machine

theorem exec_lrc (b : Bytes) (s : State) :
    exec (.lrc b) s = .next { s with trace := s.trace ++ [.result (.byte (lrcOf b))] } := rfl

theorem exec_decode (b : Bytes) (s : State) :
    exec (.decode b) s = .next { s with trace := s.trace ++ [.result (.frame (decodeFrame b))] } := rfl

theorem exec_encode_of_le (p i : Byte) {d : Bytes} (h : d.length ≤ 253) (s : State) :
    exec (.encode p i d) s = .next { s with trace := s.trace ++ [.result (.bytes (frameBytes p i d))] } := by
  simp only [exec, execEncode, encodeFrame_of_le p i h]
  rfl

theorem exec_encode_of_lt (p i : Byte) {d : Bytes} (h : 253 < d.length) (s : State) :
    exec (.encode p i d) s = .refused .encodeTooLong := by
  simp only [exec, execEncode, encodeFrame_of_lt p i h]

/-- Settles O10, by the checksum's algebra. -/
theorem lrcIsTheXorOfTheBytes : Obligations.LrcIsTheXorOfTheBytes :=
  ⟨exec_lrc, lrcOf_nil, fun _ _ => lrcOf_perm, lrcOf_cons_pair⟩

/-- Settles O11: DATA fits or not, and a frame with fewer than two DATA bytes is below DECODE's eight. -/
theorem encodeBuildsTheFrame : Obligations.EncodeBuildsTheFrame := by
  intro p i d s
  refine ⟨fun hd => ?_, fun hd => exec_encode_of_lt p i hd s, fun hd => ?_⟩
  · rw [exec_encode_of_le p i hd, frameBytes_eq]
    rfl
  · exact ⟨_, encodeFrame_of_le p i (by omega), length_frameBytes p i d, decodeFrame_frameBytes_short p i hd⟩

/-- Settles O12: a buffer of eight bytes or more is taken by its two ends, on which the tests are R113's. -/
theorem decodeTestsInOrder : Obligations.DecodeTestsInOrder := by
  intro b s
  rw [exec_decode]
  refine ⟨fun h => by rw [decodeFrame_tooShort h], ?_⟩
  by_cases h8 : 8 ≤ b.length
  case neg => exact ⟨fun h => absurd h h8, fun h => absurd h h8, fun h => absurd h h8⟩
  obtain ⟨x, c, y, z, rfl⟩ := exists_ends b (by omega)
  have hlen : (x :: (c ++ [y, z])).length = c.length + 3 := by simp
  have hc : 5 ≤ c.length := by omega
  have hlast : (x :: (c ++ [y, z]))[c.length + 3 - 1]? = some z := getElem?_last_of_ends
  have hlrc : (x :: (c ++ [y, z]))[c.length + 3 - 2]? = some y := getElem?_lrc_of_ends
  have hcov : ((x :: (c ++ [y, z])).drop 1).take (c.length + 3 - 3) = c := take_covered_of_ends
  rw [hlen, hlast, hlrc, hcov, List.getElem?_cons_zero]
  simp only [ne_eq, Option.some.injEq]
  refine ⟨fun _ h => ?_, ?_, ?_⟩
  · rw [decodeFrame_badBoundary hc h]
  · rintro - rfl rfl h
    rw [decodeFrame_lrcMismatch hc (Ne.symm h)]
  · intro _ hx hz hy
    have hsealed : x :: (c ++ [y, z]) = sealFrame c := by rw [hx, hz, hy]; rfl
    obtain ⟨l, p, i, hl, hp, hi, hok⟩ := decodeFrame_sealFrame_by_position hc
    rw [hsealed]
    exact ⟨l, p, i, hl, hp, hi, by rw [hok]⟩

end Sys2Proof.Machine
end

section
/-! TLV_FIND (41_tlv_extractor.md): the scan finds the leftmost match (R131), and what it finds in a template payload
stands clear of the frame's head and of the LRC (R133). -/

namespace Sys2Proof.Machine

/-! ## The leftmost match (R131) -/

/-- R131: an element is well-formed at offset `i`, and none is at a smaller offset. -/
def LeftmostTlvAt (b : Bytes) (t1 t2 : Byte) (i : Nat) (l : Byte) : Prop :=
  TlvAt b t1 t2 i l ∧ ∀ j < i, ∀ x, ¬ TlvAt b t1 t2 j x

theorem LeftmostTlvAt.unique {b : Bytes} {t1 t2 l l' : Byte} {i i' : Nat} (h : LeftmostTlvAt b t1 t2 i l)
    (h' : LeftmostTlvAt b t1 t2 i' l') : i = i' ∧ l = l' := by
  obtain ⟨hat, hmin⟩ := h
  obtain ⟨hat', hmin'⟩ := h'
  obtain rfl : i = i' :=
    Nat.le_antisymm (Nat.not_lt.1 fun hlt => hmin i' hlt l' hat') (Nat.not_lt.1 fun hlt => hmin' i hlt l hat)
  obtain ⟨-, -, hl, -⟩ := hat
  obtain ⟨-, -, hl', -⟩ := hat'
  exact ⟨rfl, Option.some.inj (hl.symm.trans hl')⟩

theorem leftmostTlvAt_head {t1 t2 a b l : Byte} {rest : Bytes} (hc : a = t1 ∧ b = t2 ∧ l.toNat ≤ rest.length) :
    LeftmostTlvAt (a :: b :: l :: rest) t1 t2 0 l := by
  obtain ⟨ha, hb, hl⟩ := hc
  exact ⟨(tlvAt_head t1 t2 a b l l rest).2 ⟨ha, hb, rfl, hl⟩, fun j hj => absurd hj (Nat.not_lt_zero j)⟩

theorem not_tlvAt_zero {t1 t2 a b l : Byte} {rest : Bytes} (hc : ¬ (a = t1 ∧ b = t2 ∧ l.toNat ≤ rest.length))
    (x : Byte) : ¬ TlvAt (a :: b :: l :: rest) t1 t2 0 x := by
  rw [tlvAt_head]
  rintro ⟨ha, hb, rfl, hl⟩
  exact hc ⟨ha, hb, hl⟩

theorem LeftmostTlvAt.cons {t1 t2 a l : Byte} {rest : Bytes} {i : Nat} (h0 : ∀ x, ¬ TlvAt (a :: rest) t1 t2 0 x)
    (h : LeftmostTlvAt rest t1 t2 i l) : LeftmostTlvAt (a :: rest) t1 t2 (i + 1) l := by
  obtain ⟨hat, hmin⟩ := h
  refine ⟨(tlvAt_tail t1 t2 a l i rest).2 hat, fun j hj x => ?_⟩
  cases j with
  | zero => exact h0 x
  | succ j =>
    rw [tlvAt_tail]
    exact hmin j (Nat.lt_of_succ_lt_succ hj) x

/-- The scan's answer is the value of the leftmost match. -/
theorem leftmostTlvAt_of_tlvFind {t1 t2 : Byte} {b v : Bytes} (h : tlvFind t1 t2 b = some v) :
    ∃ i l, LeftmostTlvAt b t1 t2 i l ∧ v = (b.drop (i + 3)).take l.toNat := by
  induction b using tlvFind.induct t1 t2 with
  | case1 a b l rest hc =>
    rw [tlvFind, if_pos hc] at h
    exact ⟨0, l, leftmostTlvAt_head hc, (Option.some.inj h).symm⟩
  | case2 a b l rest hc ih =>
    rw [tlvFind, if_neg hc] at h
    obtain ⟨i, x, hm, hv⟩ := ih h
    exact ⟨i + 1, x, hm.cons (not_tlvAt_zero hc), hv⟩
  | case3 b hb =>
    rw [tlvFind] at h
    · cases h
    · exact hb

theorem not_tlvAt_of_tlvFind_none {t1 t2 : Byte} {b : Bytes} (h : tlvFind t1 t2 b = none) (i : Nat) (x : Byte) :
    ¬ TlvAt b t1 t2 i x := by
  induction b using tlvFind.induct t1 t2 generalizing i with
  | case1 a b l rest hc =>
    rw [tlvFind, if_pos hc] at h
    cases h
  | case2 a b l rest hc ih =>
    rw [tlvFind, if_neg hc] at h
    cases i with
    | zero => exact not_tlvAt_zero hc x
    | succ i =>
      rw [tlvAt_tail]
      exact ih h i
  | case3 b hb =>
    have hshort : b.length < 3 := by
      match b with
      | [] | [_] | [_, _] => simp
      | a :: a' :: l :: rest => exact absurd rfl (hb a a' l rest)
    exact tlvAt_short hshort t1 t2 i x

theorem tlvFind_eq_none_iff (t1 t2 : Byte) (b : Bytes) :
    tlvFind t1 t2 b = none ↔ ∀ i l, ¬ TlvAt b t1 t2 i l := by
  refine ⟨not_tlvAt_of_tlvFind_none, fun hnone => Option.eq_none_iff_forall_ne_some.2 fun v hv => ?_⟩
  obtain ⟨i, l, ⟨hat, -⟩, -⟩ := leftmostTlvAt_of_tlvFind hv
  exact hnone i l hat

theorem tlvFind_eq_some_iff (t1 t2 : Byte) (b v : Bytes) :
    tlvFind t1 t2 b = some v ↔ ∃ i l, LeftmostTlvAt b t1 t2 i l ∧ v = (b.drop (i + 3)).take l.toNat := by
  refine ⟨leftmostTlvAt_of_tlvFind, ?_⟩
  rintro ⟨i, l, hm, rfl⟩
  have ⟨hat, _⟩ := hm
  obtain ⟨w, hw⟩ := Option.ne_none_iff_exists'.1 fun hnone => not_tlvAt_of_tlvFind_none hnone i l hat
  obtain ⟨i', l', hm', rfl⟩ := leftmostTlvAt_of_tlvFind hw
  obtain ⟨rfl, rfl⟩ := hm.unique hm'
  exact hw

theorem exec_tlvFind (b : Bytes) (t1 t2 : Byte) (s : State) :
    exec (.tlvFind b t1 t2) s = .next { s with trace := s.trace ++ [.result (.value (tlvFind t1 t2 b))] } := rfl

/-- Settles O16: the scan's answer is the value of the one leftmost match, and none where no offset matches. -/
theorem tlvFindIsTheLeftmostMatch : Obligations.TlvFindIsTheLeftmostMatch := by
  intro b t1 t2 s
  refine ⟨tlvFind t1 t2 b, exec_tlvFind b t1 t2 s, fun v => ?_, tlvFind_eq_none_iff t1 t2 b⟩
  simp only [tlvFind_eq_some_iff, LeftmostTlvAt, and_assoc]

/-! ## A value found in the template payload (R133) -/

/-- R81: the template payload stands behind six bytes of the raw frame and before the LRC and ETX. -/
theorem raw_eq_around_templatePayload {f : Frame} (h : f.isDecoded = true) :
    ∃ head tail : Bytes, f.raw = head ++ templatePayload f ++ tail ∧ head.length = 6 ∧ tail.length = 2 := by
  obtain ⟨l, p, i, m0, m1, tp, rfl⟩ := isDecoded_parts h
  rw [templatePayload_openFrame]
  exact ⟨[stx, l, p, i, m0, m1], [lrcOf (l :: p :: i :: m0 :: m1 :: tp), etx], rfl, rfl, rfl⟩

/-- Settles O17: six bytes stand before the payload and three more before the value; two stand behind the payload. -/
theorem foundValueEndsBeforeTheLrc : Obligations.FoundValueEndsBeforeTheLrc := by
  intro f t1 t2 v hf hfound
  obtain ⟨head, tail, hraw, hhead, htail⟩ := raw_eq_around_templatePayload hf
  obtain ⟨before, after, hsplit, hbefore⟩ := tlvFind_some_split hfound
  refine ⟨head ++ before, after ++ tail, ?_, ?_, ?_⟩
  · rw [hraw, hsplit]
    simp only [List.append_assoc]
  · rw [List.length_append]
    omega
  · rw [List.length_append]
    omega

end Sys2Proof.Machine
end

section
/-! CommandBuilder (42_command_builder.md): the frames that the builders build, byte for byte, and what DECODE and
CLASSIFY make of them. -/

namespace Sys2Proof

/-! ## The builders' frames under DECODE (R140, R144, R289) -/

/-- R140: the literal's last byte before ETX is not the LRC of the bytes it stands behind. -/
theorem decodeFrame_buildPoll : decodeFrame buildPoll = .err .lrcMismatch :=
  decodeFrame_lrcMismatch (c := [0x0A, 0x00, 0x3E, 0xDF, 0x7E, 0x01, 0x00]) (by decide) (by decide)

/-- R144, R289: a command's wrapper is its whole DATA, and the wrapper's tag stands where a response has its marker. -/
theorem decodeFrame_wrapperFrame (v : Bytes) :
    ∃ f, decodeFrame (frameBytes pcbCmd insCmd (tlvElement 0xDF 0x78 v)) = .ok f ∧ f.pcb = 0x00 ∧ f.ins = 0x3E ∧
      f.data = tlvElement 0xDF 0x78 v ∧ classify f = .malformed := by
  have hmarker : templateOf 0xDF 0x78 = .malformed := by decide
  exact ⟨_, decodeFrame_frameBytes _ _ (Nat.le_add_left 2 _), rfl, rfl, rfl,
    (classify_openFrame _ _ _ 0xDF 0x78 _).trans hmarker⟩

/-- Settles O19: the three built frames are wrapper frames, each with its own value. -/
theorem builtFramesDecodeAsMalformed : Obligations.BuiltFramesDecodeAsMalformed :=
  ⟨decodeFrame_buildPoll, fun _ => decodeFrame_wrapperFrame _, fun _ _ _ => decodeFrame_wrapperFrame _,
    fun _ _ _ => decodeFrame_wrapperFrame _⟩

/-! ## The frames by their bytes (R82 to R85) -/

theorem codeOf_eq_ite (kt : KeyType) : codeOf kt = if kt = .A then 0x00 else 0x04 := by cases kt <;> rfl

end Sys2Proof

namespace Sys2Proof.Machine

section Exec

variable (s : State)

theorem exec_buildPoll : exec .buildPoll s = .next { s with trace := s.trace ++ [.result (.bytes buildPoll)] } := rfl

theorem exec_buildReadBlock (b : Byte) : exec (.buildReadBlock b) s =
    .next { s with trace := s.trace ++ [.result (.bytes (buildReadBlock b))] } := rfl

theorem exec_buildLoadKey (kt : KeyType) (kn : Byte) (k : Key) : exec (.buildLoadKey kt kn k) s =
    .next { s with trace := s.trace ++ [.result (.bytes (buildLoadKey kt kn k))] } := rfl

theorem exec_buildAuthenticate (kt : KeyType) (kn sc : Byte) : exec (.buildAuthenticate kt kn sc) s =
    .next { s with trace := s.trace ++ [.result (.bytes (buildAuthenticate kt kn sc))] } := rfl

end Exec

/-- Settles O18: what each builder answers is the frame of its byte table. -/
theorem buildersBuildTheCommandFrames : Obligations.BuildersBuildTheCommandFrames := by
  intro s
  refine ⟨exec_buildPoll s, decodeFrame_buildPoll, fun b => ?_, fun kt kn k0 k1 k2 k3 k4 k5 => ?_, fun kt kn sc => ?_⟩
  · rw [exec_buildReadBlock, buildReadBlock_eq]
  · rw [exec_buildLoadKey, buildLoadKey_eq, lrcLoadKey, codeOf_eq_ite]
  · rw [exec_buildAuthenticate, buildAuthenticate_eq, lrcAuthenticate, codeOf_eq_ite]

end Sys2Proof.Machine
end

section
/-! ResponseInterpreter (43_response_interpreter.md): CLASSIFY by the marker's two bytes, the parsers' tests in their
order, and the messages of the error codes. -/

namespace Sys2Proof

/-! ## The raw frame (R81, R160) -/

/-- R8: outside the buffer `byteAt` is `00`, so any other byte it gives stands in the buffer. -/
theorem byteAt_eq_iff {b : Bytes} {i : Nat} {x : Byte} (hx : x ≠ 0) : byteAt b i = x ↔ b[i]? = some x := by
  rw [byteAt, List.getD_eq_getElem?_getD]
  cases b[i]? with
  | none => simpa using hx.symm
  | some y => simp

theorem classify_eq_success_iff (f : Frame) :
    classify f = .success ↔ f.raw[4]? = some 0xFF ∧ f.raw[5]? = some 0x01 := by
  rw [classify, templateOf_eq_success, byteAt_eq_iff (by decide), byteAt_eq_iff (by decide)]

theorem templatePayload_eq_take (f : Frame) : templatePayload f = (f.raw.drop 6).take (f.raw.length - 8) := by
  have hlen : f.raw.length - 3 + 1 - 6 = f.raw.length - 8 := by omega
  rw [templatePayload, slice, hlen]

theorem findWrapper_eq_tlvFind_take (f : Frame) :
    findWrapper f = tlvFind 0xDF 0x78 ((f.raw.drop 6).take (f.raw.length - 8)) := by
  rw [findWrapper, templatePayload_eq_take]

/-! ## The parsers, test by test (R161 to R163) -/

section Parsers

variable {f : Frame} {v : Bytes}

theorem parseCardInfo_of_success (h : classify f = .success) : parseCardInfo f =
    { type := tlvFind 0xDF 0x16 (templatePayload f), uid := tlvFind 0xDF 0x0D (templatePayload f),
      sak := tlvFind 0xDF 0x6B (templatePayload f), atq := tlvFind 0xDF 0x15 (templatePayload f) } := by
  simp only [parseCardInfo, h]

theorem parseCardInfo_of_ne_success (h : classify f ≠ .success) :
    parseCardInfo f = { type := none, uid := none, sak := none, atq := none } := by
  cases hc : classify f with
  | success => exact absurd hc h
  | error => simp only [parseCardInfo, hc]
  | malformed => simp only [parseCardInfo, hc]

/-- R162: an empty value has no echo, and so does one that opens with another byte. -/
theorem blockValueTest_of_no_echo (h : v.head? ≠ some 0xA5) : blockValueTest v = .err .commandMismatch := by
  cases v with
  | nil => rfl
  | cons x rest =>
    have hx : byteAt (x :: rest) 0 ≠ 0xA5 := fun he => h (congrArg some he)
    exact if_pos (.inr hx)

theorem blockValueTest_echo_short {rest : Bytes} (h : rest.length < 16) :
    blockValueTest (0xA5 :: rest) = .err .shortData := by
  rw [blockValueTest_echo, if_pos h]

theorem blockValueTest_echo_block {d : Bytes} (more : Bytes) (h : d.length = 16) :
    blockValueTest (0xA5 :: (d ++ more)) = .ok d := by
  have hlong : ¬ (d ++ more).length < 16 := by rw [List.length_append]; omega
  rw [blockValueTest_echo, if_neg hlong, List.take_left' h]

theorem parseBlockData_of_ne_success (h : classify f ≠ .success) : parseBlockData f = .err .unexpectedTemplate :=
  if_pos h

theorem parseBlockData_of_absent (h : classify f = .success) (hw : findWrapper f = none) :
    parseBlockData f = .err .missingTag := by
  simp [parseBlockData, h, hw]

theorem parseBlockData_of_found (h : classify f = .success) (hw : findWrapper f = some v) :
    parseBlockData f = blockValueTest v := by
  simp [parseBlockData, h, hw]

theorem errorValueTest_of_short (h : v.length < 4) : errorValueTest v = .err .missingTag := if_pos h

theorem errorValueTest_of_code (v0 v1 v2 code : Byte) (more : Bytes) :
    errorValueTest (v0 :: v1 :: v2 :: code :: more) = .ok code := if_neg (by simp)

theorem parseErrorCode_of_ne_error (h : classify f ≠ .error) : parseErrorCode f = .err .unexpectedTemplate :=
  if_pos h

theorem parseErrorCode_of_absent (h : classify f = .error) (hw : findWrapper f = none) :
    parseErrorCode f = .err .missingTag := by
  simp [parseErrorCode, h, hw]

theorem parseErrorCode_of_short (h : classify f = .error) (hw : findWrapper f = some v) (hv : v.length < 4) :
    parseErrorCode f = .err .missingTag := by
  simp [parseErrorCode, h, hw, errorValueTest_of_short hv]

theorem parseErrorCode_of_code {v0 v1 v2 code : Byte} {more : Bytes} (h : classify f = .error)
    (hw : findWrapper f = some (v0 :: v1 :: v2 :: code :: more)) :
    parseErrorCode f = .ok (code, errorMessage code) := by
  simp [parseErrorCode, h, hw, errorValueTest_of_code]

end Parsers

end Sys2Proof

namespace Sys2Proof.Machine

section Exec

variable (f : Frame) (s : State)

theorem exec_classify :
    exec (.classify f) s = .next { s with trace := s.trace ++ [.result (.template (classify f))] } := rfl

theorem exec_parseCardInfo :
    exec (.parseCardInfo f) s = .next { s with trace := s.trace ++ [.result (.cardInfo (parseCardInfo f))] } := rfl

theorem exec_parseBlockData :
    exec (.parseBlockData f) s = .next { s with trace := s.trace ++ [.result (.blockData (parseBlockData f))] } := rfl

theorem exec_parseErrorCode :
    exec (.parseErrorCode f) s = .next { s with trace := s.trace ++ [.result (.errorCode (parseErrorCode f))] } := rfl

theorem exec_errorMessage (c : Byte) :
    exec (.errorMessage c) s = .next { s with trace := s.trace ++ [.result (.text (errorMessage c))] } := rfl

end Exec

/-- Settles O20: a decoded frame has a marker at offsets 4 and 5, and the template is named by it. -/
theorem classifyReadsTheMarker : Obligations.ClassifyReadsTheMarker := by
  intro f s hf
  obtain ⟨l, p, i, m0, m1, tp, rfl⟩ := isDecoded_parts hf
  refine ⟨m0, m1, rfl, rfl, ?_⟩
  rw [exec_classify, classify_openFrame, templateOf]

/-- Settles O21, by the marker: FF 01 is Success, and any other pair is not. -/
theorem cardInfoIsFourSearches : Obligations.CardInfoIsFourSearches := by
  intro f s _
  rw [exec_parseCardInfo, ← classify_eq_success_iff, ← templatePayload_eq_take]
  refine ⟨fun h4 h5 => ?_, fun h => ?_⟩
  · rw [parseCardInfo_of_success ((classify_eq_success_iff f).2 ⟨h4, h5⟩)]
  · rw [parseCardInfo_of_ne_success h]

/-- Settles O22: the template, then the search, then the test of the found value. -/
theorem blockDataTestsInOrder : Obligations.BlockDataTestsInOrder := by
  intro f s _ found answers
  have hfound : findWrapper f = found := findWrapper_eq_tlvFind_take f
  have hanswers {r} (h : parseBlockData f = r) : answers r := h ▸ exec_parseBlockData f s
  have htest {v r} (hc : classify f = .success) (hv : found = some v) (h : blockValueTest v = r) : answers r :=
    hanswers ((parseBlockData_of_found hc (hfound.trans hv)).trans h)
  exact ⟨fun hc => hanswers (parseBlockData_of_ne_success hc),
    fun hc hn => hanswers (parseBlockData_of_absent hc (hfound.trans hn)),
    fun _ hc hv hecho => htest hc hv (blockValueTest_of_no_echo hecho),
    fun _ hc hv hshort => htest hc hv (blockValueTest_echo_short hshort),
    fun _ more hc hv hd => htest hc hv (blockValueTest_echo_block more hd)⟩

/-- Settles O23: the template, then the search, then whether the value reaches its offset 3. -/
theorem errorCodeTestsInOrder : Obligations.ErrorCodeTestsInOrder := by
  intro f s _ found answers
  have hfound : findWrapper f = found := findWrapper_eq_tlvFind_take f
  have hanswers {r} (h : parseErrorCode f = r) : answers r := h ▸ exec_parseErrorCode f s
  exact ⟨fun hc => hanswers (parseErrorCode_of_ne_error hc),
    fun hc hn => hanswers (parseErrorCode_of_absent hc (hfound.trans hn)),
    fun _ hc hv hshort => hanswers (parseErrorCode_of_short hc (hfound.trans hv) hshort),
    fun _ _ _ _ _ hc hv => hanswers (parseErrorCode_of_code hc (hfound.trans hv))⟩

/-- Settles O24: the answer is the message of the code, whose three cases are the statement's. -/
theorem errorMessagesAreExact : Obligations.ErrorMessagesAreExact := by
  intro c s
  rw [exec_errorMessage, errorMessage]

end Sys2Proof.Machine
end

section
/-! AuthenticationWorkflow (44_auth_workflow.md): how an attempt starts, how each of its two round trips ends, and
what every step keeps of its writes, its transitions and its key. -/

namespace Sys2Proof.Machine

/-! ## The start of an attempt (R191 to R193) -/

theorem parametersValid_iff (kn sc : Byte) : parametersValid kn sc = true ↔ kn.toNat ≤ 1 ∧ sc.toNat ≤ 39 := by
  simp [parametersValid]

theorem parametersValid_eq_false_iff (kn sc : Byte) :
    parametersValid kn sc = false ↔ 1 < kn.toNat ∨ 39 < sc.toNat := by
  rw [← Bool.not_eq_true, parametersValid_iff]
  omega

section Start

variable {kt : KeyType} {kn sc : Byte} {k : Key} {s : State}

theorem exec_opAuthenticate_valid (hs : s.seq = .ready) (hv : parametersValid kn sc = true) :
    exec (.opAuthenticate kt kn sc k) s =
      .next (((s.emit (.accept (.authenticate kt kn sc k))).setAuth ⟨kt, kn, sc, k, .idle⟩ .loadingKey)
        |>.startRoundTrip (buildLoadKey kt kn k) .loadKey .authenticate) := by
  simp [exec, execOpAuthenticate, hs, hv]

theorem exec_opAuthenticate_invalid (hs : s.seq = .ready) (hv : parametersValid kn sc = false) :
    exec (.opAuthenticate kt kn sc k) s =
      .next ((s.emit (.accept (.authenticate kt kn sc k))).endAuth ⟨kt, kn, sc, k, .idle⟩
        (.failed .invalidParameter)) := by
  simp [exec, execOpAuthenticate, hs, hv]

end Start

/-- R199: an attempt that reaches another state at its end notifies the change, reports it and is discarded. -/
theorem endAuth_change {ss : Session} {x : AuthState} (hx : x ≠ ss.state) (s : State) :
    s.endAuth ss x = { s with
      seq := .ready, session := none, trace := s.trace ++ [.notify ss.state x, .report (.auth x)] } := by
  simp [State.endAuth, notification_change hx]

/-- Settles O27: with the parameters in range, `setAuth` gives the fresh session and its one notification. -/
theorem authenticateStartsWithLoadKey : Obligations.AuthenticateStartsWithLoadKey := by
  intro kt kn sc k s hs hkn hsc
  refine ⟨_, encode_cmdLoadKey kt kn k, ?_⟩
  rw [exec_opAuthenticate_valid hs ((parametersValid_iff kn sc).2 ⟨hkn, hsc⟩)]
  simp [State.startRoundTrip, State.setAuth, State.emit, notification]

/-- Settles O28, by the range test: out of range the fresh session fails at once. -/
theorem invalidParametersEndAtOnce : Obligations.InvalidParametersEndAtOnce := by
  intro kt kn sc k s hs
  refine ⟨fun hout => ?_, fun hkn hsc => ?_⟩
  · rw [exec_opAuthenticate_invalid hs ((parametersValid_eq_false_iff kn sc).2 hout), endAuth_change (by simp)]
    simp [State.emit]
  · exact ⟨_, exec_opAuthenticate_valid hs ((parametersValid_iff kn sc).2 ⟨hkn, hsc⟩), rfl⟩

/-! ## The end of a round trip of an attempt (R194 to R197, R199) -/

theorem complete_undecoded {op : Op} {b : Bytes} {e : FrameError} (hd : decodeFrame b = .err e) (s : State) :
    complete op (.ok b) s = s.takeFailure op (.frameFailure e) := by
  simp [complete, hd]

section TripEnds

variable {s : State} {ss : Session}

/-- R195: what LOAD KEY's success leads to; KeyLoaded shows in the notifications alone. -/
theorem keyLoaded_eq (hl : ss.state = .loadingKey) (s : State) :
    s.keyLoaded ss = { s with
      seq := .busy .authenticate .rtWrite, rx := [], tinit := some .authenticate
      tx := some (buildAuthenticate ss.keyType ss.keyNumber ss.sector)
      session := some { ss with state := .authenticating }
      trace := s.trace ++ [.notify .loadingKey .keyLoaded, .notify .keyLoaded .authenticating] } := by
  simp [State.keyLoaded, State.startRoundTrip, State.setAuth, notification, hl]

/-- R220, R199: an attempt that ends with the end of assembly, in any state but its own. -/
theorem endAssembly_endAuth {x : AuthState} (ha : s.transport.waitAnswer = .timedOut) (hx : x ≠ ss.state) :
    s.endAssembly.endAuth ss x = { s with
      seq := .ready, rx := [], session := none
      transport := { s.transport with waits := s.transport.waits.tail, draws := s.transport.draws + 1 }
      trace := s.trace ++ [.wait .trail s.cfg.tTrail .timedOut] ++ [.notify ss.state x, .report (.auth x)] } := by
  rw [endAuth_change hx, endAssembly_timedOut ha]

variable (hs : s.seq = .busy .authenticate .rtWaitTrail) (ha : s.transport.waitAnswer = .timedOut)
  (hss : s.session = some ss)

include hs ha hss

theorem execRoundTrip_undecoded {e : FrameError} (hr : InRoundTrip ss) (hd : decodeFrame s.rx = .err e) :
    execRoundTrip s = .next (s.endAssembly.endAuth ss (.failed (.protocolError e))) := by
  rw [execRoundTrip_timedOut hs ha, complete_undecoded hd]
  exact inAttempt_eq _ hss hr

theorem execRoundTrip_decoded {f : Frame} (hr : InRoundTrip ss) (hd : decodeFrame s.rx = .ok f) :
    execRoundTrip s =
      if ss.state = .loadingKey then .next (completeLoadKey (classify f) f ss s.endAssembly)
      else .next (completeAuthenticate (classify f) f ss s.endAssembly) := by
  rw [execRoundTrip_timedOut hs ha, complete_decoded hd]
  exact inAttempt_eq _ hss hr

theorem execRoundTrip_keyLoaded {f : Frame} (hl : ss.state = .loadingKey) (hd : decodeFrame s.rx = .ok f)
    (hc : classify f = .success) : execRoundTrip s = .next (s.endAssembly.keyLoaded ss) := by
  rw [execRoundTrip_decoded hs ha hss (.inl hl) hd, if_pos hl, hc]
  rfl

theorem execRoundTrip_authenticated {f : Frame} (hau : ss.state = .authenticating) (hd : decodeFrame s.rx = .ok f)
    (hc : classify f = .success) : execRoundTrip s = .next (s.endAssembly.endAuth ss .authenticated) := by
  rw [execRoundTrip_decoded hs ha hss (.inr hau) hd, if_neg (by simp [hau]), hc]
  rfl

/-- R194, R197: both round trips end alike on an Error response. -/
theorem execRoundTrip_errorResponse {f : Frame} {r : Result (Byte × String) ResponseError} (hr : InRoundTrip ss)
    (hd : decodeFrame s.rx = .ok f) (hc : classify f = .error) (hp : parseErrorCode f = r) :
    execRoundTrip s = .next (s.endAssembly.endAuth ss (.failed (reasonOfErrorCode r))) := by
  rw [execRoundTrip_decoded hs ha hss hr hd, hc, ← hp]
  exact ite_id _

/-- R194, R197: and alike on a Malformed response. -/
theorem execRoundTrip_malformedResponse {f : Frame} (hr : InRoundTrip ss) (hd : decodeFrame s.rx = .ok f)
    (hc : classify f = .malformed) :
    execRoundTrip s = .next (s.endAssembly.endAuth ss (.failed .unknownTemplate)) := by
  rw [execRoundTrip_decoded hs ha hss hr hd, hc]
  exact ite_id _

end TripEnds

/-- R163: the one way an Error frame has no code. -/
theorem parseErrorCode_err_missingTag {f : Frame} {re : ResponseError} (hc : classify f = .error)
    (hp : parseErrorCode f = .err re) : re = .missingTag := by
  have hends := parseErrorCode_error hc
  rw [hp] at hends
  exact of_decide_eq_true hends

/-- R190: what ends a round trip is neither of the states that a round trip is in. -/
theorem InRoundTrip.failed_ne {ss : Session} (hr : InRoundTrip ss) (r : FailReason) : .failed r ≠ ss.state := by
  rcases hr with h | h <;> simp [h]

/-- Settles O36, arm by arm: the first round trip's end for each response, with the end of assembly written out. -/
theorem loadKeyResponseIsCompleted : Obligations.LoadKeyResponseIsCompleted := by
  rintro s s1 ss hs ha hss hl rfl fails
  have hr : InRoundTrip ss := .inl hl
  have hfails {r : FailReason} (h : execRoundTrip s = .next (s.endAssembly.endAuth ss (.failed r))) : fails r := by
    refine h.trans ?_
    rw [endAssembly_endAuth ha (hr.failed_ne r), hl]
  refine ⟨fun fe hd => hfails (execRoundTrip_undecoded hs ha hss hr hd), fun f hd hc => ?_,
    fun f c m hd hc hp => hfails (execRoundTrip_errorResponse hs ha hss hr hd hc hp),
    fun f re hd hc hp => ⟨hfails (execRoundTrip_errorResponse hs ha hss hr hd hc hp),
      parseErrorCode_err_missingTag hc hp⟩,
    fun f hd hc => hfails (execRoundTrip_malformedResponse hs ha hss hr hd hc)⟩
  refine ⟨_, encode_cmdAuthenticate _ _ _, (execRoundTrip_keyLoaded hs ha hss hl hd hc).trans ?_⟩
  rw [keyLoaded_eq hl, endAssembly_timedOut ha]

/-- Settles O37, arm by arm: the second round trip's end for each response, always the
attempt's end. -/
theorem authenticateResponseIsCompleted : Obligations.AuthenticateResponseIsCompleted := by
  rintro s s1 ss hs ha hss hau rfl ends
  have hr : InRoundTrip ss := .inr hau
  have hends {x : AuthState} (hx : x ≠ ss.state) (h : execRoundTrip s = .next (s.endAssembly.endAuth ss x)) :
      ends x := by
    refine h.trans ?_
    rw [endAssembly_endAuth ha hx, hau]
  refine ⟨fun fe hd => hends (hr.failed_ne _) (execRoundTrip_undecoded hs ha hss hr hd),
    fun f hd hc => hends (by simp [hau]) (execRoundTrip_authenticated hs ha hss hau hd hc),
    fun f c m hd hc hp => hends (hr.failed_ne _) (execRoundTrip_errorResponse hs ha hss hr hd hc hp),
    fun f re hd hc hp => ⟨hends (hr.failed_ne _) (execRoundTrip_errorResponse hs ha hss hr hd hc hp),
      parseErrorCode_err_missingTag hc hp⟩,
    fun f hd hc => hends (hr.failed_ne _) (execRoundTrip_malformedResponse hs ha hss hr hd hc)⟩

/-! ## The response forms (R80) -/

section Received

variable {s : State}

/-- R80: the response that RX holds runs as ROUND_TRIP does. -/
theorem exec_received {op : Op} {i : Instr} (hs : s.seq = .busy op .rtWaitTrail)
    (ha : s.transport.waitAnswer = .timedOut) (hw : i.wellFormed = true) (hc : i.channel = some .received)
    (hrx : encode i = some s.rx) : exec i s = execRoundTrip s :=
  exec_decodeResponse hs ha (decodeOfEncodeIsTheInstruction i .received s.rx hw hc hrx)

theorem decodeFrame_rx {l p i m0 m1 : Byte} {tp : Bytes} (hrx : some (responseBytes l p i m0 m1 tp) = some s.rx) :
    decodeFrame s.rx = .ok (responseFrame l p i m0 m1 tp) :=
  Option.some.inj hrx ▸ decodeFrame_responseBytes l p i m0 m1 tp

end Received

/-- Settles O41: each form is the round trip's end, and what it ends in turns on the marker and the DF78 value. -/
theorem responseFormsEndAuthenticateRoundTrips : Obligations.ResponseFormsEndAuthenticateRoundTrips := by
  rintro l p i m0 m1 tp s s1 ss hs ha hss hr rfl ends
  have hends {i : Instr} {x : AuthState} (hx : x ≠ ss.state) (hi : exec i s = execRoundTrip s)
      (h : execRoundTrip s = .next (s.endAssembly.endAuth ss x)) : exec i s = ends x := by
    rw [hi, h, endAssembly_endAuth ha hx]
  refine ⟨fun hrx => ?_, fun hrx => ?_, fun hw hrx => ?_⟩
  · have hi := exec_received hs ha rfl rfl hrx
    refine ⟨fun hau => ?_, fun hl => ⟨_, encode_cmdAuthenticate _ _ _, ?_⟩⟩
    · exact hends (by simp [hau]) hi (execRoundTrip_authenticated hs ha hss hau (decodeFrame_rx hrx) rfl)
    · rw [hi, execRoundTrip_keyLoaded hs ha hss hl (decodeFrame_rx hrx) rfl, keyLoaded_eq hl, endAssembly_timedOut ha]
  · have hfails {r} (hp : parseErrorCode (responseFrame l p i 0xFF 0x03 tp) = r) :
        exec (.rspError l p i tp) s = ends (.failed (reasonOfErrorCode r)) :=
      hends (InRoundTrip.failed_ne hr _) (exec_received hs ha rfl rfl hrx)
        (execRoundTrip_errorResponse hs ha hss hr (decodeFrame_rx hrx) rfl hp)
    have hfound : findWrapper (responseFrame l p i 0xFF 0x03 tp) = tlvFind 0xDF 0x78 tp :=
      findWrapper_openFrame l p i 0xFF 0x03 tp
    refine ⟨fun v0 v1 v2 c more hv => hfails (parseErrorCode_of_code rfl (hfound.trans hv)), ?_⟩
    rintro (hnone | ⟨v, hv, hshort⟩)
    · exact hfails (parseErrorCode_of_absent rfl (hfound.trans hnone))
    · exact hfails (parseErrorCode_of_short rfl (hfound.trans hv) hshort)
  · have hm : templateOf m0 m1 = .malformed := of_decide_eq_true hw
    exact hends (InRoundTrip.failed_ne hr _) (exec_received hs ha hw rfl hrx)
      (execRoundTrip_malformedResponse hs ha hss hr (decodeFrame_rx hrx) hm)

/-! ## The transport writes of an operation (R201, R220) -/

theorem attemptWrites_append (tr es : List PortEvent) :
    attemptWrites (tr ++ es) = es.foldl countWrites (attemptWrites tr) := List.foldl_append

theorem foldl_countWrites_notification (n : Nat) (old new : AuthState) :
    (notification old new).foldl countWrites n = n := by
  unfold notification
  split <;> rfl

/-- R220: a completion is no transaction, and it accepts nothing. -/
theorem Completes.attemptWrites {op : Op} {s t : State} (h : Completes op s t) :
    attemptWrites t.trace = Machine.attemptWrites s.trace := by
  cases h with
  | report r hop hr => simp [attemptWrites_append, countWrites]
  | auth ss x hop hs hi ht ha => simp [attemptWrites_append, foldl_countWrites_notification, countWrites]
  | next ss hop hs hl => simp [attemptWrites_append, foldl_countWrites_notification]

/-- R201: the count starts with the acceptance. -/
theorem Accepts.attemptWrites {s t : State} {q : Request} (h : Accepts s q t) : attemptWrites t.trace = 0 := by
  cases h with
  | poll => simp [attemptWrites_append, countWrites]
  | readBlock b => simp [attemptWrites_append, countWrites]
  | auth kt kn sc k hv => simp [attemptWrites_append, foldl_countWrites_notification, countWrites]
  | invalid kt kn sc k hv => simp [attemptWrites_append, foldl_countWrites_notification, countWrites]

/-- R224: `u` is `s` with the one transaction of phase `ph` put out, a write exactly in `RtWrite`; the session
stands. -/
def Transacts (ph : Phase) (s u : State) : Prop :=
  u.session = s.session ∧ ∃ e : PortEvent, e.isTransport = true ∧ u.trace = s.trace ++ [e] ∧
    ∀ n, countWrites n e = if ph = .rtWrite then n + 1 else n

/-- R220, R224: after its transaction a round trip is past `RtWrite`, or it completes. -/
theorem TripStep.transacts {s t : State} {op : Op} {ph : Phase} (h : TripStep s op ph t) :
    ∃ u, Transacts ph s u ∧
      (Completes op u t ∨
        t.session = u.session ∧ t.trace = u.trace ∧ ∃ ph', ph' ≠ .rtWrite ∧ t.seq = .busy op ph') := by
  cases h with
  | wrote b hb ha =>
    exact ⟨s.doWrite b, ⟨rfl, _, rfl, rfl, fun _ => rfl⟩, .inr ⟨rfl, rfl, .rtWaitInit, by simp, rfl⟩⟩
  | writeFailed b t hb ha hc => exact ⟨(s.doWrite b).clearRx, ⟨rfl, _, rfl, rfl, fun _ => rfl⟩, .inl hc⟩
  | waited i hb ha =>
    exact ⟨s.doWait (.init i), ⟨rfl, _, rfl, rfl, fun _ => rfl⟩, .inr ⟨rfl, rfl, .rtReadInit, by simp, rfl⟩⟩
  | waitFailed i t hb ha hc => exact ⟨(s.doWait (.init i)).clearRx, ⟨rfl, _, rfl, rfl, fun _ => rfl⟩, .inl hc⟩
  | read ph hp hf =>
    refine ⟨s.doRead, ⟨rfl, _, rfl, rfl, fun _ => ?_⟩, .inr ⟨rfl, rfl, .rtWaitTrail, by simp, rfl⟩⟩
    rcases hp with rfl | rfl <;> rfl
  | trailing ha =>
    exact ⟨s.doWait .trail, ⟨rfl, _, rfl, rfl, fun _ => rfl⟩, .inr ⟨rfl, rfl, .rtReadTrail, by simp, rfl⟩⟩
  | assembled t ha hc => exact ⟨s.endAssembly, ⟨rfl, _, rfl, rfl, fun _ => rfl⟩, .inl hc⟩

section Ledger

variable {s t : State} {op : Op} {ph : Phase} {ss : Session}

theorem tripsBefore_loadingKey (hss : s.session = some ss) (hl : ss.state = .loadingKey) : tripsBefore s = 0 := by
  simp [tripsBefore, hss, hl]

theorem tripsBefore_authenticating (hss : s.session = some ss) (ha : ss.state = .authenticating) :
    tripsBefore s = 1 := by
  simp [tripsBefore, hss, ha]

theorem tripsBefore_congr (h : t.session = s.session) : tripsBefore t = tripsBefore s := by
  simp only [tripsBefore, h]

theorem writeLedger_of_ready (hs : s.seq = .ready) : WriteLedger s := by simp [WriteLedger, hs]

theorem writeLedger_iff_of_busy (hs : s.seq = .busy op ph) :
    WriteLedger s ↔ attemptWrites s.trace = if ph = .rtWrite then tripsBefore s else tripsBefore s + 1 := by
  cases ph <;> simp [WriteLedger, hs]

/-- R201, R220: the first transaction of a round trip writes and no other does, so after each of them there is one
write for this round trip and one for each before it. -/
theorem Transacts.attemptWrites {u : State} (h : Transacts ph s u) (hs : s.seq = .busy op ph) (hl : WriteLedger s) :
    attemptWrites u.trace = tripsBefore s + 1 := by
  obtain ⟨-, e, -, htr, he⟩ := h
  rw [htr, attemptWrites_append, List.foldl_cons, List.foldl_nil, he, (writeLedger_iff_of_busy hs).1 hl]
  split <;> rfl

theorem TripStep.attemptWrites (h : TripStep s op ph t) (hs : s.seq = .busy op ph) (hl : WriteLedger s) :
    attemptWrites t.trace = tripsBefore s + 1 := by
  obtain ⟨u, hu, hc | ⟨-, htr, -⟩⟩ := h.transacts
  · rw [hc.attemptWrites, hu.attemptWrites hs hl]
  · rw [htr, hu.attemptWrites hs hl]

theorem TripStep.writeLedger (h : TripStep s op ph t) (hs : s.seq = .busy op ph) (hl : WriteLedger s) :
    WriteLedger t := by
  have hw := h.attemptWrites hs hl
  obtain ⟨u, ⟨hss, -⟩, hc | ⟨hss', -, ph', hp, ht⟩⟩ := h.transacts
  · cases hc with
    | report r hop hr => exact writeLedger_of_ready rfl
    | auth ss x hop hs hi ht ha => exact writeLedger_of_ready rfl
    | next ss hop hs hst =>
      rw [tripsBefore_loadingKey (hss.symm.trans hs) hst] at hw
      rw [writeLedger_iff_of_busy (State.keyLoaded_seq ss u), if_pos rfl, hw]
      exact (tripsBefore_authenticating (State.keyLoaded_session ss u) rfl).symm
  · rw [writeLedger_iff_of_busy ht, if_neg hp, hw, tripsBefore_congr (hss'.trans hss)]

/-- R191, R199: what is accepted in Ready, where no session is left, has no round trip behind it. -/
theorem Accepts.tripsBefore {q : Request} (h : Accepts s q t) (hss : s.session = none) :
    tripsBefore t = 0 := by
  cases h with
  | poll => simp [Machine.tripsBefore, hss]
  | readBlock b => simp [Machine.tripsBefore, hss]
  | auth kt kn sc k hv => simp [Machine.tripsBefore]
  | invalid kt kn sc k hv => simp [Machine.tripsBefore]

theorem Accepts.seq {q : Request} (h : Accepts s q t) : t.seq = .ready ∨ ∃ op, t.seq = .busy op .rtWrite := by
  cases h with
  | poll => exact .inr ⟨_, rfl⟩
  | readBlock b => exact .inr ⟨_, rfl⟩
  | auth kt kn sc k hv => exact .inr ⟨_, rfl⟩
  | invalid kt kn sc k hv => exact .inl rfl

theorem Accepts.writeLedger {q : Request} (h : Accepts s q t) (hss : s.session = none) : WriteLedger t := by
  rcases h.seq with ht | ⟨op, ht⟩
  · exact writeLedger_of_ready ht
  · rw [writeLedger_iff_of_busy ht, if_pos rfl, h.attemptWrites, h.tripsBefore hss]

theorem WriteLedger.congr (hl : WriteLedger s) (hseq : t.seq = s.seq) (hss : t.session = s.session)
    (hw : Machine.attemptWrites t.trace = Machine.attemptWrites s.trace) : WriteLedger t := by
  simpa only [WriteLedger, hseq, tripsBefore_congr hss, hw] using hl

end Ledger

/-- Settles O51: a round trip's transactions keep the count, an acceptance restarts it, and nothing else writes. -/
theorem stepKeepsTheWriteLedger : Obligations.StepKeepsTheWriteLedger := by
  intro s t hI hl h
  cases step_next h with
  | reset hr => exact writeLedger_of_ready rfl
  | unit us r => exact hl.congr rfl rfl (attemptWrites_append _ _)
  | trip op ph t hs ht => exact ht.writeLedger hs hl
  | request q qs t hs ht =>
    obtain ⟨-, hss⟩ := (invariant_iff_of_ready hs).1 hI
    exact ht.writeLedger hss
  | idle hs => exact hl

/-! ## What a step shows of an attempt (R33, R34, R199, R200) -/

/-- No report and no notification. -/
def PortEvent.IsSilent : PortEvent → Prop
  | .report _ | .notify _ _ => False
  | .accept _ | .write _ _ _ | .wait _ _ _ | .read _ | .result _ | .reset => True

theorem PortEvent.isSilent_of_isTransport {e : PortEvent} (h : e.isTransport = true) : e.IsSilent := by
  cases e with
  | write | wait | read => trivial
  | accept | report | notify | result | reset => cases h

/-- What a step from `s` into `t` shows on the ports of R33 and R34, in this order and nothing else. -/
inductive Shows (s t : State) : List PortEvent → Prop where
  | nothing : Shows s t []
  | report (r : Report) (hr : ∀ x, r ≠ .auth x) : Shows s t [.report r]
  | started : Shows s t [.notify .idle .loadingKey]
  | invalid (hs : s.seq = .ready) (ht : t.session = none) :
      Shows s t [.notify .idle (.failed .invalidParameter), .report (.auth (.failed .invalidParameter))]
  | keyLoaded : Shows s t [.notify .loadingKey .keyLoaded, .notify .keyLoaded .authenticating]
  | ended (ss : Session) (x : AuthState) (hs : s.seq ≠ .ready) (hss : s.session = some ss) (hr : InRoundTrip ss)
      (hx : isTerminal x = true) (ha : allowedTransition ss.state x = true) (ht : t.session = none) :
      Shows s t [.notify ss.state x, .report (.auth x)]

theorem ne_of_allowedTransition {a b : AuthState} (h : allowedTransition a b = true) : a ≠ b := by
  rintro rfl
  cases a <;> cases h

/-- What `s` and `t` differ in on the ports: events that show nothing, then `shown`. -/
def PutsOut (s t : State) (shown : List PortEvent) : Prop :=
  ∃ before, (∀ e ∈ before, PortEvent.IsSilent e) ∧ t.trace = s.trace ++ (before ++ shown)

theorem PutsOut.mem_iff {s t : State} {es shown : List PortEvent} {e : PortEvent} (h : PutsOut s t shown)
    (ht : t.trace = s.trace ++ es) (he : ¬ e.IsSilent) : e ∈ es ↔ e ∈ shown := by
  obtain ⟨before, hbefore, htr⟩ := h
  obtain rfl : es = before ++ shown := List.append_cancel_left (ht.symm.trans htr)
  rw [List.mem_append, or_iff_right fun hb => he (hbefore e hb)]

theorem putsOut_silent {s t : State} {e : PortEvent} (he : e.IsSilent) (ht : t.trace = s.trace ++ [e]) :
    PutsOut s t [] :=
  ⟨[e], by simpa using he, ht⟩

theorem Completes.shows {op : Op} {s t u : State} (h : Completes op u t) (hs : s.seq ≠ .ready)
    (hss : u.session = s.session) : ∃ shown, t.trace = u.trace ++ shown ∧ Shows s t shown := by
  cases h with
  | report r hop hr => exact ⟨_, rfl, .report r hr⟩
  | auth ss x hop hus hi ht ha =>
    refine ⟨_, ?_, .ended ss x hs (hss.symm.trans hus) hi ht ha rfl⟩
    simp [notification_change (ne_of_allowedTransition ha).symm]
  | next ss hop hus hl => exact ⟨_, by simp [notification, hl], .keyLoaded⟩

theorem TripStep.shows {s t : State} {op : Op} {ph : Phase} (h : TripStep s op ph t) (hs : s.seq = .busy op ph) :
    ∃ shown, PutsOut s t shown ∧ Shows s t shown := by
  obtain ⟨u, ⟨hss, e, he, hu, -⟩, hc | ⟨-, ht, -⟩⟩ := h.transacts
  · obtain ⟨shown, ht, hshows⟩ := hc.shows (s := s) (by simp [hs]) hss
    refine ⟨shown, ⟨[e], by simpa using e.isSilent_of_isTransport he, ?_⟩, hshows⟩
    rw [ht, hu, List.append_assoc]
  · exact ⟨[], putsOut_silent (e.isSilent_of_isTransport he) (ht.trans hu), .nothing⟩

theorem Accepts.shows {s t u : State} {q : Request} (h : Accepts u q t) (hs : s.seq = .ready)
    (htr : u.trace = s.trace) : ∃ shown, PutsOut s t shown ∧ Shows s t shown := by
  have hout (shown : List PortEvent) (ht : t.trace = u.trace ++ ([.accept q] ++ shown)) : PutsOut s t shown :=
    ⟨[.accept q], by simp [PortEvent.IsSilent], htr ▸ ht⟩
  cases h with
  | poll => exact ⟨[], hout _ rfl, .nothing⟩
  | readBlock b => exact ⟨[], hout _ rfl, .nothing⟩
  | auth kt kn sc k hv => exact ⟨_, hout _ (by simp [notification]), .started⟩
  | invalid kt kn sc k hv => exact ⟨_, hout _ (by simp [notification]), .invalid hs rfl⟩

theorem StepsTo.shows {s t : State} (h : StepsTo s t) : ∃ shown, PutsOut s t shown ∧ Shows s t shown := by
  cases h with
  | reset hr => exact ⟨[], putsOut_silent (e := .reset) trivial rfl, .nothing⟩
  | unit us r => exact ⟨[], putsOut_silent (e := .result r) trivial rfl, .nothing⟩
  | trip op ph t hs ht => exact ht.shows hs
  | request q qs t hs ht => exact ht.shows hs rfl
  | idle hs => exact ⟨[], ⟨[], by simp, by simp⟩, .nothing⟩

/-- R33, R226: only an acceptance or a transaction of a round trip reports. -/
theorem StepsTo.reports {s t : State} {es : List PortEvent} {r : Report} (h : StepsTo s t)
    (ht : t.trace = s.trace ++ es) (hr : .report r ∈ es) :
    (∃ q qs, s.seq = .ready ∧ Accepts { s with requests := qs } q t) ∨
    (∃ op ph, s.seq = .busy op ph ∧ TripStep s op ph t) := by
  cases h with
  | reset hl => cases ((putsOut_silent (e := .reset) trivial rfl).mem_iff ht id).1 hr
  | unit us u => cases ((putsOut_silent (s := s) (e := .result u) trivial rfl).mem_iff ht id).1 hr
  | trip op ph t hs hstep => exact .inr ⟨op, ph, hs, hstep⟩
  | request q qs t hs ha => exact .inl ⟨q, qs, hs, ha⟩
  | idle hs =>
    obtain rfl : es = [] := by simpa using ht
    cases hr

section Shown

variable {s t : State} {shown : List PortEvent}

/-- R200: what is notified is in the relation. -/
theorem Shows.allowed {a b : AuthState} (h : Shows s t shown) (hn : .notify a b ∈ shown) :
    allowedTransition a b = true := by
  cases h with
  | nothing => cases hn
  | report r hr => simp at hn
  | started | invalid =>
    obtain ⟨rfl, rfl⟩ : a = _ ∧ b = _ := by simpa using hn
    rfl
  | keyLoaded =>
    rcases List.mem_pair.1 hn with h | h
    · cases h; rfl
    · cases h; rfl
  | ended ss x hs hss hr hx ha ht =>
    obtain ⟨rfl, rfl⟩ : a = _ ∧ b = _ := by simpa using hn
    exact ha

variable {x : AuthState}

/-- R199: the end of an attempt, whichever way it is reached. -/
theorem Shows.reported (h : Shows s t shown) (hx : .report (.auth x) ∈ shown) :
    isTerminal x = true ∧ t.session = none ∧ ∃ a, .notify a x ∈ shown := by
  cases h with
  | nothing | started | keyLoaded => simp at hx
  | report r hr => simp [(hr x).symm] at hx
  | invalid hs ht =>
    obtain rfl : x = _ := by simpa using hx
    exact ⟨rfl, ht, .idle, by simp⟩
  | ended ss y hs hss hr hy ha ht =>
    obtain rfl : x = y := by simpa using hx
    exact ⟨hy, ht, ss.state, by simp⟩

theorem Shows.reported_of_ready (h : Shows s t shown) (hx : .report (.auth x) ∈ shown) (hs : s.seq = .ready) :
    x = .failed .invalidParameter := by
  cases h with
  | nothing | started | keyLoaded => simp at hx
  | report r hr => simp [(hr x).symm] at hx
  | invalid => simpa using hx
  | ended ss y hn => exact absurd hs hn

theorem Shows.reported_of_busy (h : Shows s t shown) (hx : .report (.auth x) ∈ shown) (hs : s.seq ≠ .ready) :
    ∃ ss, s.session = some ss ∧ InRoundTrip ss ∧ allowedTransition ss.state x = true := by
  cases h with
  | nothing | started | keyLoaded => simp at hx
  | report r hr => simp [(hr x).symm] at hx
  | invalid hn => exact absurd hn hs
  | ended ss y hn hss hr hy ha ht =>
    obtain rfl : x = y := by simpa using hx
    exact ⟨ss, hss, hr, ha⟩

end Shown

/-- Settles O53, by what a step shows: the two ends of an attempt are the only places where one is reported. -/
theorem sessionTransitionsAreTheSpecs : Obligations.SessionTransitionsAreTheSpecs := by
  intro s t es h ht
  obtain ⟨shown, hout, hshows⟩ := (step_next h).shows
  refine ⟨fun a b hn => ?_, fun x hx => ?_⟩
  · have ha := hshows.allowed ((hout.mem_iff ht id).1 hn)
    exact ⟨ha, ne_of_allowedTransition ha⟩
  · obtain ⟨hterm, hnone, a, hn⟩ := hshows.reported ((hout.mem_iff ht id).1 hx)
    exact ⟨hterm, hnone, a, (hout.mem_iff ht id).2 hn⟩

/-- Settles O52: a report comes from an acceptance, before any write, or from a round trip's transaction, whose count
the session's state gives. -/
theorem attemptWriteCounts : Obligations.AttemptWriteCounts := by
  intro s t es x hl h ht hx
  obtain ⟨shown, hout, hshows⟩ := (step_next h).shows
  have hshown := (hout.mem_iff ht id).1 hx
  rcases (step_next h).reports ht hx with ⟨q, qs, hs, haccepts⟩ | ⟨op, ph, hs, htrip⟩
  · exact ⟨fun _ => ⟨hshows.reported_of_ready hshown hs, haccepts.attemptWrites⟩, fun hn => absurd hs hn⟩
  · have hbusy : s.seq ≠ .ready := by simp [hs]
    have hw := htrip.attemptWrites hs hl
    obtain ⟨ss, hss, hr, ha⟩ := hshows.reported_of_busy hshown hbusy
    refine ⟨fun hn => absurd hn hbusy, fun _ => ?_⟩
    rcases hr with hlk | hau
    · rw [hlk] at ha
      rw [tripsBefore_loadingKey hss hlk] at hw
      exact ⟨(by rintro rfl; cases ha), ss, hss, .inl ⟨hlk, (by rintro rfl; cases ha), hw⟩⟩
    · rw [hau] at ha
      rw [tripsBefore_authenticating hss hau] at hw
      exact ⟨(by rintro rfl; cases ha), ss, hss, .inr ⟨hau, hw⟩⟩

/-! ## Another key in the session (R193, R196) -/

/-- The same session with another key. -/
def Session.withKey (k : Key) (ss : Session) : Session := { ss with key := k }

theorem readPhase_fits {s : State} (op : Op)
    (hf : s.cfg.fits (s.rx.length + s.transport.chunk.length) = true) :
    readPhase op s = .next ({ s.doRead with rx := s.rx ++ s.transport.chunk }.toPhase op .rtWaitTrail) := if_pos hf

theorem readPhase_overflow {s : State} (op : Op)
    (hf : ¬ s.cfg.fits (s.rx.length + s.transport.chunk.length) = true) :
    readPhase op s = .refused .rxOverflow := if_neg hf

section OtherKey

variable (k : Key) (s : State)

@[simp] theorem State.withKey_seq : (s.withKey k).seq = s.seq := rfl
@[simp] theorem State.withKey_tx : (s.withKey k).tx = s.tx := rfl
@[simp] theorem State.withKey_tinit : (s.withKey k).tinit = s.tinit := rfl
@[simp] theorem State.withKey_transport : (s.withKey k).transport = s.transport := rfl
@[simp] theorem State.withKey_session : (s.withKey k).session = s.session.map (Session.withKey k) := rfl

/-- A completion sees the other session; its state is the same. -/
theorem inAttempt_withKey {c c' : Session → Answer}
    (hc : ∀ ss, c' (ss.withKey k) = Answer.map (State.withKey k) (c ss)) :
    (s.withKey k).inAttempt c' = Answer.map (State.withKey k) (s.inAttempt c) := by
  unfold State.inAttempt
  rw [State.withKey_session]
  cases s.session with
  | none => rfl
  | some ss =>
    have hst : (ss.withKey k).state = ss.state := rfl
    simp only [Option.map_some, hst]
    cases ss.state with
    | loadingKey | authenticating => exact hc ss
    | idle | keyLoaded | authenticated | failed => rfl

theorem takeFailure_withKey (op : Op) (x : TripFailure) :
    (s.withKey k).takeFailure op x = Answer.map (State.withKey k) (s.takeFailure op x) := by
  cases op with
  | poll | readBlock => rfl
  | authenticate => exact inAttempt_withKey k s fun _ => rfl

/-- R196: the second round trip is built from the session's other fields. -/
theorem completeAttempt_withKey (t : Template) (f : Frame) :
    completeAttempt t f (s.withKey k) = Answer.map (State.withKey k) (completeAttempt t f s) := by
  refine inAttempt_withKey k s fun ss => ?_
  have hst : (ss.withKey k).state = ss.state := rfl
  rw [hst]
  split
  · cases t <;> rfl
  · cases t <;> rfl

theorem complete_withKey (op : Op) (r : Result Bytes TransportError) :
    complete op r (s.withKey k) = Answer.map (State.withKey k) (complete op r s) := by
  cases r with
  | err e => exact takeFailure_withKey k s op _
  | ok buf =>
    cases hd : decodeFrame buf with
    | err fe =>
      rw [complete_undecoded hd, complete_undecoded hd]
      exact takeFailure_withKey k s op _
    | ok f =>
      rw [complete_decoded hd, complete_decoded hd]
      cases op with
      | poll | readBlock => rfl
      | authenticate => exact completeAttempt_withKey k s (classify f) f

theorem writePhase_withKey (op : Op) (pkt : Bytes) :
    writePhase op pkt (s.withKey k) = Answer.map (State.withKey k) (writePhase op pkt s) := by
  unfold writePhase
  rw [State.withKey_transport]
  cases s.transport.writeAnswer with
  | ok => rfl
  | writeError => exact complete_withKey k (s.doWrite pkt).clearRx op _

theorem waitInitPhase_withKey (op : Op) (i : InitWait) :
    waitInitPhase op i (s.withKey k) = Answer.map (State.withKey k) (waitInitPhase op i s) := by
  unfold waitInitPhase
  rw [State.withKey_transport]
  cases s.transport.waitAnswer with
  | ok => rfl
  | timedOut => exact complete_withKey k (s.doWait (.init i)).clearRx op _

theorem readPhase_withKey (op : Op) :
    readPhase op (s.withKey k) = Answer.map (State.withKey k) (readPhase op s) := by
  by_cases hf : s.cfg.fits (s.rx.length + s.transport.chunk.length) = true
  · rw [readPhase_fits op hf, readPhase_fits (s := s.withKey k) op hf]
    rfl
  · rw [readPhase_overflow op hf, readPhase_overflow (s := s.withKey k) op hf]
    rfl

theorem waitTrailPhase_withKey (op : Op) :
    waitTrailPhase op (s.withKey k) = Answer.map (State.withKey k) (waitTrailPhase op s) := by
  unfold waitTrailPhase
  rw [State.withKey_transport]
  cases s.transport.waitAnswer with
  | ok => rfl
  | timedOut => exact complete_withKey k s.endAssembly op (.ok s.rx)

theorem execRoundTrip_withKey :
    execRoundTrip (s.withKey k) = Answer.map (State.withKey k) (execRoundTrip s) := by
  unfold execRoundTrip
  rw [State.withKey_seq]
  cases s.seq with
  | ready => rfl
  | busy op ph =>
    cases ph with
    | rtWrite =>
      simp only [State.withKey_tx]
      cases s.tx with
      | none => rfl
      | some b => exact writePhase_withKey k s op b
    | rtWaitInit =>
      simp only [State.withKey_tinit]
      cases s.tinit with
      | none => rfl
      | some i => exact waitInitPhase_withKey k s op i
    | rtReadInit | rtReadTrail => exact readPhase_withKey k s op
    | rtWaitTrail => exact waitTrailPhase_withKey k s op

end OtherKey

/-- Settles O57: both runs take the same thing; in a round trip what it takes commutes with the other key. -/
theorem sessionKeyIsNotReadAgain : Obligations.SessionKeyIsNotReadAgain := by
  intro s k hbusy
  cases takes s with
  | reset hr =>
    rw [step_reset hr, step_reset (s := s.withKey k) hr]
    rfl
  | unit u us hr hu =>
    rw [step_unit hr hu, step_unit (s := s.withKey k) hr hu]
    rcases exec_unit u with ⟨r, he⟩ | ⟨p, i, d, -, -, he⟩
    · rw [he, he]
      rfl
    · rw [he, he]
      rfl
  | phase op ph hr hu hs =>
    rw [step_busy hr hu hs, step_busy (s := s.withKey k) hr hu hs]
    exact execRoundTrip_withKey k s
  | request q qs hr hu hs hq => exact absurd hs hbusy
  | idle hr hu hs hq => exact absurd hs hbusy

end Sys2Proof.Machine
end

section
/-! Operations and the transport (45_operations_transport.md): what stands next, how requests and the transactions of a
round trip advance it, what ends it, and what every step puts out. -/

namespace Sys2Proof.Machine

/-! ## A round trip's step is ROUND_TRIP's, whichever wire form it runs (R220, R224) -/

theorem exec_roundTrip (s : State) : exec .roundTrip s = execRoundTrip s := rfl

/-- Settles O45: the command in TX, the response in RX and the value in it each do what ROUND_TRIP does there. -/
theorem wireFormsRefineRoundTrip : Obligations.WireFormsRefineRoundTrip :=
  fun _ _ _ hs => exec_phaseInstr hs

/-- Settles O4: what is presented on a port is run as it stands there; in a round trip, each form that the bytes of
TX or RX decode to answers as ROUND_TRIP does, and so does the step. -/
theorem stepRunsTheInstructionThatStandsNext : Obligations.StepRunsTheInstructionThatStandsNext := by
  intro s hr
  refine ⟨fun u us hu => step_unit hr hu, fun hu => ⟨fun q qs hs hq => step_request hr hu hs hq, ?_⟩⟩
  have busy {op : Op} {ph : Phase} {i : Instr} (hs : s.seq = .busy op ph) (hi : exec i s = execRoundTrip s) :
      step s = exec i s := (step_busy hr hu hs).trans hi.symm
  refine ⟨fun op b i hs htx hd => busy hs (exec_decodeCommand hs htx hd), fun op b e hs _ _ => busy hs rfl,
    fun op hs _ => busy hs rfl, fun op i hs ha hd => ?_, fun op e hs _ _ => busy hs rfl,
    fun op hs _ => busy hs rfl, fun op ph hs _ _ => busy hs rfl⟩
  have whole : step s = exec i s := busy hs (exec_decodeResponse hs ha hd)
  refine ⟨fun _ => whole, ?_, fun _ _ => whole, ?_, fun _ _ => whole⟩
  · rintro rfl rest hw
    exact busy hs (exec_blockValue hs ha hw)
  · rintro rfl v hw
    exact busy hs (exec_errorValue hs ha hw)

/-! ## A placed word (log 6, log 11) -/

theorem exists_channel_of_decode {b : Bytes} {i : Instr} (h : decode b = .ok i) : ∃ c, decodeOn c b = .ok i := by
  unfold decode at h
  split at h
  next j hd => exact ⟨.sent, hd.trans h⟩
  next =>
    split at h
    next j hd => exact ⟨.received, hd.trans h⟩
    next =>
      split at h
      next j hd => exact ⟨.successValue, hd.trans h⟩
      next =>
        split at h
        next j hd => exact ⟨.errorValue, hd.trans h⟩
        next => cases h

/-- R75: the search finds the one element that a payload is. -/
theorem tlvFind_tlvElement (t1 t2 : Byte) {v : Bytes} (h : v.length ≤ 255) :
    tlvFind t1 t2 (tlvElement t1 t2 v) = some v := by
  simpa [tlvElement] using tlvFind_head (t1 := t1) (t2 := t2) (more := []) (toNat_ofNat_of_le h)

/-- R86: the DF78 value of a response that carries nothing else. -/
theorem wrapperIn_response {m0 m1 : Byte} {v : Bytes} (l p n : Byte) (h : v.length ≤ 255) :
    wrapperIn (templateOf m0 m1) (responseBytes l p n m0 m1 (tlvElement 0xDF 0x78 v)) = some v := by
  rw [wrapperIn, decodeFrame_responseBytes, responseFrame_eq_openFrame]
  simp [tlvFind_tlvElement _ _ h]

theorem receivedForm_poll {b : Bytes} {i : Instr} (hd : decodeResponse b = .ok i) : receivedForm .poll b = i := by
  simp [receivedForm, hd]

theorem receivedForm_readBlock {b rest : Bytes} {i : Instr} (hd : decodeResponse b = .ok i)
    (hw : wrapperIn .success b = some (0xA5 :: rest)) : receivedForm .readBlock b = .valReadBlockData rest := by
  simp [receivedForm, hd, hw]

theorem receivedForm_authenticate {b v : Bytes} {i : Instr} (hd : decodeResponse b = .ok i)
    (hw : wrapperIn .error b = some v) : receivedForm .authenticate b = .valError v := by
  simp [receivedForm, hd, hw]

/-- The next step of `u` runs `i`, in `u` itself. -/
def RunsNext (i : Instr) (u : State) : Prop :=
  u.resetLine = false ∧ fetch u = some (i, u) ∧ step u = exec i u

section Placed

variable {u : State} {op : Op} (hr : u.resetLine = false) (hu : u.units = [])
include hr hu

theorem runsNext_phaseInstr {ph : Phase} (hs : u.seq = .busy op ph) : RunsNext (phaseInstr op ph u) u := by
  have hf : fetch u = some (phaseInstr op ph u, u) := by simp [fetch, hu, hs]
  exact ⟨hr, hf, by simp [step, hr, hf]⟩

theorem runsNext_sent {b : Bytes} {i : Instr} (hs : u.seq = .busy op .rtWrite) (htx : u.tx = some b)
    (hd : decodeCommand b = .ok i) : RunsNext i u := by
  have hi : phaseInstr op .rtWrite u = i := by simp [phaseInstr, htx, hd]
  exact hi ▸ runsNext_phaseInstr hr hu hs

theorem runsNext_received {i : Instr} (hs : u.seq = .busy op .rtWaitTrail)
    (ha : u.transport.waitAnswer = .timedOut) (hf : receivedForm op u.rx = i) : RunsNext i u := by
  have hi : phaseInstr op .rtWaitTrail u = i := (if_pos ha).trans hf
  exact hi ▸ runsNext_phaseInstr hr hu hs

end Placed

/-- Each form is placed in its phase: a command in TX, a response in RX, a value in the response that carries it. -/
theorem runsNext_placeBytes {b : Bytes} {i : Instr} (h : decode b = .ok i) (s : State) :
    RunsNext i (s.placeBytes b) := by
  obtain ⟨c, hc⟩ := exists_channel_of_decode h
  unfold State.placeBytes
  rw [h]
  cases c with
  | sent =>
    rcases decodeCommand_cases hc with ⟨rfl, -⟩ | ⟨blk, rfl, -⟩ | ⟨kt, kn, k, rfl, -⟩ | ⟨kt, kn, sc, rfl, -⟩
    all_goals exact runsNext_sent rfl rfl rfl rfl hc
  | received =>
    obtain ⟨l, p, n, m0, m1, tp, -, -, ⟨-, rfl⟩ | ⟨-, rfl⟩ | ⟨-, rfl⟩⟩ := decodeResponse_cases hc
    all_goals exact runsNext_received rfl rfl rfl rfl (receivedForm_poll hc)
  | successValue =>
    obtain ⟨rest, hle, rfl, rfl⟩ := (decodeBlockValue_eq_ok_iff b i).1 hc
    exact runsNext_received rfl rfl rfl rfl
      (receivedForm_readBlock (decodeResponse_responseBytes ..) (wrapperIn_response _ _ _ (Nat.succ_le_succ hle)))
  | errorValue =>
    obtain ⟨v, hle, rfl, rfl⟩ := (decodeErrorValue_eq_ok_iff b i).1 hc
    exact runsNext_received rfl rfl rfl rfl
      (receivedForm_authenticate (decodeResponse_responseBytes ..) (wrapperIn_response _ _ _ hle))

/-- Settles O5: the bytes of the word are placed, and they decode to the instruction. -/
theorem placedWordIsRunNext : Obligations.PlacedWordIsRunNext := by
  intro s nbits w i h
  have hd : decode (wordBytes (nbits / 8) w) = .ok i := by
    unfold decodeTableWord at h
    split at h
    next j hj => exact hj.trans (congrArg Result.ok (Option.some.inj h))
    next => cases h
  exact runsNext_placeBytes hd s

/-! ## What a step puts out (R57, R224, R226) -/

/-- R34: nothing but notifications. -/
def OnlyNotifies (es : List PortEvent) : Prop := ∀ e ∈ es, ∃ a b, e = .notify a b

theorem onlyNotifies_notification (a b : AuthState) : OnlyNotifies (notification a b) := by
  intro e he
  unfold notification at he
  split at he
  · cases he
  · exact ⟨a, b, List.mem_singleton.1 he⟩

theorem OnlyNotifies.append {es es' : List PortEvent} (h : OnlyNotifies es) (h' : OnlyNotifies es') :
    OnlyNotifies (es ++ es') := fun e he => (List.mem_append.1 he).elim (h e) (h' e)

/-- R226: what an acceptance or a transaction leads to in its step, into `t`: notifications, and behind them one
report exactly where `t` is Ready. -/
inductive Concludes (t : State) : List PortEvent → Prop where
  | goesOn (ns : List PortEvent) (hn : OnlyNotifies ns) (ht : t.seq ≠ .ready) : Concludes t ns
  | reports (ns : List PortEvent) (r : Report) (hn : OnlyNotifies ns) (ht : t.seq = .ready) :
      Concludes t (ns ++ [.report r])

/-- R224: everything that a step from `s` into `t` puts out. -/
inductive StepOutputs (s t : State) : List PortEvent → Prop where
  | reset (hr : s.resetLine = true) (ht : t.seq = .ready) : StepOutputs s t [.reset]
  | idle (ht : t = s) : StepOutputs s t []
  | result (r : UnitResult) (ht : t.seq = s.seq) : StepOutputs s t [.result r]
  | accepts (q : Request) (more : List PortEvent) (hs : s.seq = .ready) (hm : Concludes t more) :
      StepOutputs s t (.accept q :: more)
  | transacts (e : PortEvent) (more : List PortEvent) (hs : s.seq ≠ .ready) (he : e.isTransport = true)
      (hm : Concludes t more) : StepOutputs s t (e :: more)

/-- R199: the end of an attempt is its notification and its report. -/
theorem concludes_endAuth (ss : Session) (x : AuthState) (s : State) :
    Concludes (s.endAuth ss x) (notification ss.state x ++ [.report (.auth x)]) :=
  .reports _ _ (onlyNotifies_notification ss.state x) rfl

theorem Completes.concludes {op : Op} {s t : State} (h : Completes op s t) :
    ∃ more, t.trace = s.trace ++ more ∧ Concludes t more := by
  cases h with
  | report r hop hr => exact ⟨_, rfl, .reports [] r nofun rfl⟩
  | auth ss x hop hs hi ht ha => exact ⟨_, List.append_assoc .., concludes_endAuth ss x s⟩
  | next ss hop hs hl =>
    refine ⟨_, List.append_assoc .., .goesOn _ ?_ (by simp)⟩
    exact (onlyNotifies_notification ss.state .keyLoaded).append (onlyNotifies_notification .keyLoaded .authenticating)

theorem Accepts.concludes {s t : State} {q : Request} (h : Accepts s q t) :
    ∃ more, t.trace = s.trace ++ .accept q :: more ∧ Concludes t more := by
  cases h with
  | poll => exact ⟨[], rfl, .goesOn _ nofun (by simp)⟩
  | readBlock b => exact ⟨[], rfl, .goesOn _ nofun (by simp)⟩
  | auth kt kn sc k hv =>
    exact ⟨_, by simp, .goesOn _ (onlyNotifies_notification .idle .loadingKey) (by simp)⟩
  | invalid kt kn sc k hv =>
    exact ⟨_, by simp, concludes_endAuth ⟨kt, kn, sc, k, .idle⟩ (.failed .invalidParameter) _⟩

theorem TripStep.concludes {s t : State} {op : Op} {ph : Phase} (h : TripStep s op ph t) :
    ∃ e more, e.isTransport = true ∧ t.trace = s.trace ++ e :: more ∧ Concludes t more := by
  obtain ⟨u, ⟨-, e, he, hu, -⟩, hc | ⟨-, htr, ph', -, hseq⟩⟩ := h.transacts
  · obtain ⟨more, ht, hm⟩ := hc.concludes
    exact ⟨e, more, he, by simp [ht, hu], hm⟩
  · exact ⟨e, [], he, htr.trans hu, .goesOn _ nofun (by simp [hseq])⟩

theorem StepsTo.exists_outputs {s t : State} (h : StepsTo s t) :
    ∃ es, t.trace = s.trace ++ es ∧ StepOutputs s t es := by
  cases h with
  | reset hr => exact ⟨_, rfl, .reset hr rfl⟩
  | unit us r => exact ⟨_, rfl, .result r rfl⟩
  | trip op ph t hs ht =>
    obtain ⟨e, more, he, htr, hm⟩ := ht.concludes
    exact ⟨_, htr, .transacts e more (by simp [hs]) he hm⟩
  | request q qs t hs ht =>
    obtain ⟨more, htr, hm⟩ := ht.concludes
    exact ⟨_, htr, .accepts q more hs hm⟩
  | idle hs => exact ⟨[], by simp, .idle rfl⟩

theorem StepsTo.outputs {s t : State} {es : List PortEvent} (h : StepsTo s t) (ht : t.trace = s.trace ++ es) :
    StepOutputs s t es := by
  obtain ⟨es', ht', hout⟩ := h.exists_outputs
  exact List.append_cancel_left (ht.symm.trans ht') ▸ hout

theorem Concludes.mem {t : State} {more : List PortEvent} {e : PortEvent} (h : Concludes t more) (he : e ∈ more) :
    (∃ a b, e = .notify a b) ∨ ∃ r, e = .report r := by
  cases h with
  | goesOn _ hn ht => exact .inl (hn e he)
  | reports ns r hn ht =>
    rcases List.mem_append.1 he with hns | hr
    · exact .inl (hn e hns)
    · exact .inr ⟨r, List.mem_singleton.1 hr⟩

theorem Concludes.accept_notMem {t : State} {more : List PortEvent} (h : Concludes t more) (q : Request) :
    PortEvent.accept q ∉ more := by
  intro hq
  rcases h.mem hq with ⟨a, b, hab⟩ | ⟨r, hr⟩
  · cases hab
  · cases hr

theorem Concludes.filter_isTransport {t : State} {more : List PortEvent} (h : Concludes t more) :
    more.filter PortEvent.isTransport = [] := by
  refine List.filter_eq_nil_iff.2 fun e he => ?_
  rcases h.mem he with ⟨a, b, rfl⟩ | ⟨r, rfl⟩
  · exact Bool.false_ne_true
  · exact Bool.false_ne_true

/-- R226: a report among what follows is behind all of it, and the step ends in Ready. -/
theorem Concludes.report_last {t : State} {more : List PortEvent} {r : Report} (h : Concludes t more)
    (hr : .report r ∈ more) :
    t.seq = .ready ∧ ∃ ns, more = ns ++ [.report r] ∧ ∀ r', PortEvent.report r' ∉ ns := by
  have silent {ns : List PortEvent} (hn : OnlyNotifies ns) (r' : Report) : PortEvent.report r' ∉ ns := by
    intro hmem
    obtain ⟨a, b, hab⟩ := hn _ hmem
    cases hab
  cases h with
  | goesOn _ hn ht => exact absurd hr (silent hn r)
  | reports ns r' hn ht =>
    obtain rfl : r = r' := by simpa using (List.mem_append.1 hr).resolve_left (silent hn r)
    exact ⟨ht, ns, rfl, silent hn⟩

theorem Concludes.report_of_ready {t : State} {more : List PortEvent} (h : Concludes t more) (ht : t.seq = .ready) :
    ∃ r, PortEvent.report r ∈ more := by
  cases h with
  | goesOn _ hn hbusy => exact absurd ht hbusy
  | reports ns r hn _ => exact ⟨r, by simp⟩

/-- Settles O50: a report can only stand in what follows an acceptance or a transaction, and there it is last; from
busy to Ready without reset there was a transaction, and it is reported. -/
theorem oneReportAtTheEndOfAnOperation : Obligations.OneReportAtTheEndOfAnOperation := by
  intro s t es h ht
  have last {e : PortEvent} {more : List PortEvent} {r : Report} (hm : Concludes t more)
      (he : ∀ r, e ≠ .report r) (hr : .report r ∈ e :: more) :
      t.seq = .ready ∧ ∃ before, e :: more = before ++ [.report r] ∧ ∀ r', PortEvent.report r' ∉ before := by
    obtain ⟨hready, ns, rfl, hns⟩ := hm.report_last ((List.mem_cons.1 hr).resolve_left (he r).symm)
    refine ⟨hready, e :: ns, rfl, fun r' hmem => ?_⟩
    exact (List.mem_cons.1 hmem).elim (fun heq => he r' heq.symm) (hns r')
  cases (step_next h).outputs ht with
  | reset hl hready => exact ⟨by simp, fun _ _ hoff => absurd hl (by simp [hoff])⟩
  | idle hsame =>
    subst hsame
    exact ⟨nofun, fun hbusy hready => absurd hready hbusy⟩
  | result u hseq => exact ⟨by simp, fun hbusy hready => absurd (hseq.symm.trans hready) hbusy⟩
  | accepts q more hs hm => exact ⟨fun r => last hm nofun, fun hbusy => absurd hs hbusy⟩
  | transacts e more hs he hm =>
    refine ⟨fun r => last hm (by rintro r' rfl; cases he), fun _ hready _ => ?_⟩
    obtain ⟨r, hr⟩ := hm.report_of_ready hready
    exact ⟨r, List.mem_cons_of_mem e hr⟩

theorem outstanding_append (tr es : List PortEvent) :
    outstanding (tr ++ es) = es.foldl countOutstanding (outstanding tr) := List.foldl_append

theorem OnlyNotifies.foldl_countOutstanding {ns : List PortEvent} (h : OnlyNotifies ns) (n : Int) :
    ns.foldl countOutstanding n = n := by
  induction ns with
  | nil => rfl
  | cons e ns ih =>
    obtain ⟨a, b, rfl⟩ := h e List.mem_cons_self
    exact ih fun e' he' => h e' (List.mem_cons_of_mem _ he')

theorem countOutstanding_of_isTransport {e : PortEvent} (h : e.isTransport = true) (n : Int) :
    countOutstanding n e = n := by
  cases e with
  | write | wait | read => rfl
  | accept | report | notify | result | reset => cases h

theorem reportLedger_iff (s : State) :
    ReportLedger s ↔ outstanding s.trace = if s.seq = .ready then 0 else 1 := by
  cases hs : s.seq with
  | ready => simp [ReportLedger, hs]
  | busy op ph => simp [ReportLedger, hs]

/-- R226: the one outstanding request is reported exactly where SEQ is left Ready. -/
theorem Concludes.foldl_countOutstanding {t : State} {more : List PortEvent} (h : Concludes t more) :
    more.foldl countOutstanding 1 = if t.seq = .ready then 0 else 1 := by
  cases h with
  | goesOn _ hn ht => rw [hn.foldl_countOutstanding, if_neg ht]
  | reports ns r hn ht =>
    rw [List.foldl_append, hn.foldl_countOutstanding, if_pos ht]
    rfl

/-- Settles O49: an acceptance opens the count in Ready, a transaction keeps it, and what follows either closes it
exactly where it ends in Ready. -/
theorem stepKeepsTheReportLedger : Obligations.StepKeepsTheReportLedger := by
  intro s t hl h
  obtain ⟨es, ht, hout⟩ := (step_next h).exists_outputs
  rw [reportLedger_iff] at hl ⊢
  rw [ht, outstanding_append, hl]
  cases hout with
  | reset hr hready => rw [if_pos hready]; rfl
  | idle hsame => rw [hsame]; rfl
  | result r hseq => rw [hseq]; rfl
  | accepts q more hs hm =>
    rw [if_pos hs]
    exact hm.foldl_countOutstanding
  | transacts e more hs he hm =>
    rw [if_neg hs, List.foldl_cons, countOutstanding_of_isTransport he]
    exact hm.foldl_countOutstanding

/-- Settles O54: the one transaction is the first output of a step taken while busy, and nothing that follows it or
an acceptance is one. -/
theorem oneTransportTransactionAStep : Obligations.OneTransportTransactionAStep := by
  intro s t es h ht
  cases (step_next h).outputs ht with
  | reset hr hready => simp [PortEvent.isTransport]
  | idle hsame => simp
  | result r hseq => simp [PortEvent.isTransport]
  | accepts q more hs hm => simp [PortEvent.isTransport, hm.filter_isTransport]
  | transacts e more hs he hm => simp [he, hs, hm.filter_isTransport]

theorem Completes.requests {op : Op} {s t : State} (h : Completes op s t) : t.requests = s.requests := by
  cases h with
  | report r hop hr => rfl
  | auth ss x hop hs hi ht ha => rfl
  | next ss hop hs hl => rfl

/-- R225: the transactions of a round trip leave the held requests alone. -/
theorem TripStep.requests {s t : State} {op : Op} {ph : Phase} (h : TripStep s op ph t) :
    t.requests = s.requests := by
  cases h with
  | wrote b hb ha => rfl
  | writeFailed b t hb ha hc => exact hc.requests
  | waited i hb ha => rfl
  | waitFailed i t hb ha hc => exact hc.requests
  | read ph hp hfit => rfl
  | trailing ha => rfl
  | assembled t ha hc => exact hc.requests

/-- R225: only an acceptance, which Ready alone makes, takes a request off the port. -/
theorem StepsTo.requests {s t : State} (h : StepsTo s t) (hs : s.seq ≠ .ready) : t.requests = s.requests := by
  cases h with
  | reset hr => rfl
  | unit us r => rfl
  | trip op ph t _ ht => exact ht.requests
  | request q qs t hready ht => exact absurd hready hs
  | idle hready => exact absurd hready hs

/-- Settles O30: a busy step takes reset, a call or a transaction, and none of them is or leads to an acceptance. -/
theorem busyStepTakesNoRequest : Obligations.BusyStepTakesNoRequest := by
  intro s t hs h
  refine ⟨(step_next h).requests hs, fun es ht q => ?_⟩
  cases (step_next h).outputs ht with
  | reset hr hready => simp
  | idle hsame => simp
  | result r hseq => simp
  | accepts q' more hready hm => exact absurd hready hs
  | transacts e more _ he hm =>
    have hq : PortEvent.accept q ≠ e := by rintro rfl; cases he
    exact fun hmem => (List.mem_cons.1 hmem).elim hq (hm.accept_notMem q)

/-! ## Requests (R222, R223, R225) -/

theorem exec_opPoll_ready {s : State} (hs : s.seq = .ready) :
    exec .opPoll s = .next ((s.emit (.accept .poll)).startRoundTrip buildPoll .poll .poll) := by
  simp [exec, execOpPoll, hs]

theorem exec_opReadBlock_ready {s : State} (b : Byte) (hs : s.seq = .ready) :
    exec (.opReadBlock b) s =
      .next ((s.emit (.accept (.readBlock b))).startRoundTrip (buildReadBlock b) .readBlock .readBlock) := by
  simp [exec, execOpReadBlock, hs]

/-- Settles O26: in Ready the request is accepted, and `startRoundTrip` writes SEQ, RX, TINIT and TX. -/
theorem pollAndReadBlockStartTheirRoundTrip : Obligations.PollAndReadBlockStartTheirRoundTrip := by
  intro s hs
  refine ⟨exec_opPoll_ready hs, fun b => ?_⟩
  rw [exec_opReadBlock_ready b hs, buildReadBlock_eq]
  rfl

/-- Settles O29: each of the three requests is held where SEQ is busy. -/
theorem requestPresentedWhileBusyIsHeld : Obligations.RequestPresentedWhileBusyIsHeld := by
  intro op ph s hs q
  cases q with
  | poll => simp [Request.toInstr, exec, execOpPoll, hs, State.hold]
  | readBlock b => simp [Request.toInstr, exec, execOpReadBlock, hs, State.hold]
  | authenticate kt kn sc k => simp [Request.toInstr, exec, execOpAuthenticate, hs, State.hold]

/-! ## The transactions of a round trip, phase by phase (R220, R221, R227) -/

theorem fits_iff (c : Config) (n : Nat) : c.fits n = true ↔ ∀ cap, c.rxCapacity = some cap → n ≤ cap := by
  unfold Config.fits
  cases c.rxCapacity with
  | none => simp
  | some cap => simp

section Transactions

variable {s : State} {op : Op}

theorem doWrite_answered {a : WriteAnswer} (b : Bytes) (ha : s.transport.writeAnswer = a) :
    s.doWrite b = { s with
      transport := { s.transport with writes := s.transport.writes.tail, draws := s.transport.draws + 1 }
      trace := s.trace ++ [.write b s.cfg.tWrite a] } := ha ▸ rfl

theorem doWait_answered {a : WaitAnswer} (t : Timeout) (ha : s.transport.waitAnswer = a) :
    s.doWait t = { s with
      transport := { s.transport with waits := s.transport.waits.tail, draws := s.transport.draws + 1 }
      trace := s.trace ++ [.wait t (s.cfg.millis t) a] } := ha ▸ rfl

theorem execRoundTrip_written {b : Bytes} (hs : s.seq = .busy op .rtWrite) (htx : s.tx = some b)
    (ha : s.transport.writeAnswer = .ok) : execRoundTrip s = .next ((s.doWrite b).toPhase op .rtWaitInit) := by
  rw [execRoundTrip_rtWrite hs htx, writePhase, ha]

theorem execRoundTrip_writeFailed {b : Bytes} (hs : s.seq = .busy op .rtWrite) (htx : s.tx = some b)
    (ha : s.transport.writeAnswer = .writeError) :
    execRoundTrip s = (s.doWrite b).clearRx.takeFailure op (.transportFailure .writeTimeout) := by
  rw [execRoundTrip_rtWrite hs htx, writePhase, ha]
  rfl

theorem execRoundTrip_waited {i : InitWait} (hs : s.seq = .busy op .rtWaitInit) (hti : s.tinit = some i)
    (ha : s.transport.waitAnswer = .ok) :
    execRoundTrip s = .next ((s.doWait (.init i)).toPhase op .rtReadInit) := by
  rw [execRoundTrip_rtWaitInit hs hti, waitInitPhase, ha]

theorem execRoundTrip_waitFailed {i : InitWait} (hs : s.seq = .busy op .rtWaitInit) (hti : s.tinit = some i)
    (ha : s.transport.waitAnswer = .timedOut) :
    execRoundTrip s = (s.doWait (.init i)).clearRx.takeFailure op (.transportFailure .readTimeout) := by
  rw [execRoundTrip_rtWaitInit hs hti, waitInitPhase, ha]
  rfl

theorem execRoundTrip_reading (hs : s.seq = .busy op .rtReadInit ∨ s.seq = .busy op .rtReadTrail) :
    execRoundTrip s = readPhase op s := by
  rcases hs with hs | hs
  · simp only [execRoundTrip, hs]
  · simp only [execRoundTrip, hs]

theorem execRoundTrip_trailing (hs : s.seq = .busy op .rtWaitTrail) (ha : s.transport.waitAnswer = .ok) :
    execRoundTrip s = .next ((s.doWait .trail).toPhase op .rtReadTrail) := by
  simp only [execRoundTrip, hs, waitTrailPhase, ha]

end Transactions

/-- Settles O31, phase by phase, each transaction written out with the answer it was given. -/
theorem roundTripAdvancesPhaseByPhase : Obligations.RoundTripAdvancesPhaseByPhase := by
  intro op s
  refine ⟨fun b hs htx ha => ?_, fun t hs hti ha => ?_, fun hs hcap => ?_, fun hs cap hcap hlong => ?_,
    fun hs ha => ?_⟩
  · rw [exec_roundTrip, execRoundTrip_written hs htx ha, doWrite_answered b ha]
    rfl
  · rw [exec_roundTrip, execRoundTrip_waited hs hti ha, doWait_answered _ ha]
    rfl
  · rw [exec_roundTrip, execRoundTrip_reading hs, readPhase_fits op ((fits_iff _ _).2 hcap)]
    rfl
  · rw [exec_roundTrip, execRoundTrip_reading hs]
    exact readPhase_overflow op fun hfit => absurd ((fits_iff _ _).1 hfit cap hcap) (Nat.not_le.2 hlong)
  · rw [exec_roundTrip, execRoundTrip_trailing hs ha, doWait_answered _ ha]
    rfl

/-- Settles O32: after the failed transaction RX is emptied and the failure taken, for each operation in its way. -/
theorem transportFailureEndsTheOperation : Obligations.TransportFailureEndsTheOperation := by
  intro op s s1 e hend
  obtain ⟨u, hu, rfl, hsession⟩ : ∃ u : State, execRoundTrip s = u.takeFailure op (.transportFailure e) ∧
      s1 = { u with seq := .ready } ∧ u.session = s.session := by
    rcases hend with ⟨b, hs, htx, ha, rfl, rfl⟩ | ⟨t, hs, hti, ha, rfl, rfl⟩
    · exact ⟨_, execRoundTrip_writeFailed hs htx ha, by rw [doWrite_answered b ha]; rfl, rfl⟩
    · exact ⟨_, execRoundTrip_waitFailed hs hti ha, by rw [doWait_answered _ ha]; rfl, rfl⟩
  refine ⟨?_, ?_, ?_⟩
  · rintro rfl
    exact hu
  · rintro rfl
    exact hu
  · rintro ss rfl hss hr
    refine (hu.trans (inAttempt_eq _ (hsession.trans hss) hr)).trans ?_
    rw [endAuth_failed hr]
    rfl

/-! ## The trailing wait (R228) -/

/-- R228: where one trailing wait answered `ok` and the read after it lead. -/
def State.takeTrailingChunk (op : Op) (s : State) : State :=
  let w := (s.doWait .trail).toPhase op .rtReadTrail
  { w.doRead with rx := w.rx ++ w.transport.chunk }.toPhase op .rtWaitTrail

theorem run_of_step {s t : State} (h : step s = .next t) (k : Nat) :
    Host.Core.run core (k + 1) s = Host.Core.run core k t := by
  have hcore : core.step s = .next t := h
  simp only [Host.Core.run, hcore]

theorem run_takeTrailingChunk {s : State} {op : Op} (hs : s.seq = .busy op .rtWaitTrail) (hu : s.units = [])
    (hr : s.resetLine = false) (hcap : s.cfg.rxCapacity = none) (ha : s.transport.waitAnswer = .ok) (k : Nat) :
    Host.Core.run core (k + 2) s = Host.Core.run core k (s.takeTrailingChunk op) := by
  have hwait : step s = .next ((s.doWait .trail).toPhase op .rtReadTrail) :=
    (step_busy hr hu hs).trans (execRoundTrip_trailing hs ha)
  have hread : step ((s.doWait .trail).toPhase op .rtReadTrail) = .next (s.takeTrailingChunk op) := by
    rw [step_busy (s := (s.doWait .trail).toPhase op .rtReadTrail) hr hu rfl, execRoundTrip_reading (.inr rfl)]
    exact readPhase_fits op ((fits_iff _ _).2 (by simp [hcap]))
  rw [run_of_step hwait, run_of_step hread]

/-- Settles O59, by induction on the chunks: two steps take each of them and lead back to the same phase. -/
theorem assemblyCanHang : Obligations.AssemblyCanHang := by
  intro cs op
  induction cs with
  | nil =>
    intro s ws rs hs hu hr hcap hws hrs
    exact ⟨s, rfl, rfl, by simp, rfl, hws, hrs⟩
  | cons c cs ih =>
    intro s ws rs hs hu hr hcap hws hrs
    have ha : s.transport.waitAnswer = .ok := by simp [Transport.waitAnswer, hws, List.replicate_succ]
    have hrx : (s.takeTrailingChunk op).rx = s.rx ++ c := by simp [State.takeTrailingChunk, Transport.chunk, hrs]
    obtain ⟨t, hrun, hseq, hrxs, hss, hws', hrs'⟩ := ih (s.takeTrailingChunk op) ws rs rfl hu hr hcap
      (by simp [State.takeTrailingChunk, hws, List.replicate_succ]) (by simp [State.takeTrailingChunk, hrs])
    refine ⟨t, ?_, hseq.trans hs.symm, ?_, hss, hws', hrs'⟩
    · exact (run_takeTrailingChunk hs hu hr hcap ha _).trans hrun
    · rw [hrxs, hrx, List.append_assoc, List.flatten_cons]

/-- R23: during an AUTHENTICATE the invariant gives a session that a round trip can complete. -/
theorem exists_inRoundTrip_of_fits {x : Option Session} (h : sessionFits .authenticate x = true) :
    ∃ ss, x = some ss ∧ InRoundTrip ss := by
  cases x with
  | none => cases h
  | some ss =>
    simp only [sessionFits, Bool.and_eq_true, Bool.or_eq_true, decide_eq_true_eq] at h
    exact ⟨ss, rfl, h.2⟩

/-- A completion of a round trip whose session fits: the operation is over, or its second round trip begins. -/
theorem Completes.over_or_second {op : Op} {s t : State} (h : Completes op s t)
    (hf : sessionFits op s.session = true) :
    t.seq = .ready ∧ t.session = none ∨
    op = .authenticate ∧ t.seq = .busy .authenticate .rtWrite ∧
      ∃ ss, t.session = some ss ∧ ss.state = .authenticating := by
  cases h with
  | report r hop hr => exact .inl ⟨rfl, session_none_of_fits hf hop⟩
  | auth ss x hop hs hi ht ha => exact .inl ⟨rfl, rfl⟩
  | next ss hop hs hl => exact .inr ⟨hop, rfl, _, rfl, rfl⟩

theorem Completes.rx {op : Op} {s t : State} (h : Completes op s t) (hrx : s.rx = []) : t.rx = [] := by
  cases h with
  | report r hop hr => exact hrx
  | auth ss x hop hs hi ht ha => exact hrx
  | next ss hop hs hl => rfl

/-- Settles O60: the assembly is over, and the invariant's session keeps its completion from faulting. -/
theorem trailingTimeoutEndsTheRoundTrip : Obligations.TrailingTimeoutEndsTheRoundTrip := by
  intro op s hI hs hu hr ha
  obtain ⟨-, -, hf⟩ := (invariant_iff_of_busy hs).1 hI
  rw [step_busy hr hu hs, execRoundTrip_timedOut hs ha]
  rcases complete_completes op (.ok s.rx) s.endAssembly with ⟨t, ht, hc⟩ | ⟨rfl, hnone, -⟩
  · exact ⟨t, ht, hc.rx rfl, hc.over_or_second hf.session⟩
  · obtain ⟨ss, hss, hin⟩ := exists_inRoundTrip_of_fits hf.session
    exact absurd hin (hnone ss hss)

/-! ## The responses of POLL and READ BLOCK (R222, R223) -/

section Responses

variable {s : State} {op : Op}

theorem execRoundTrip_frameFailure {e : FrameError} (hs : s.seq = .busy op .rtWaitTrail)
    (ha : s.transport.waitAnswer = .timedOut) (hd : decodeFrame s.rx = .err e) :
    execRoundTrip s = s.endAssembly.takeFailure op (.frameFailure e) := by
  rw [execRoundTrip_timedOut hs ha, complete_undecoded hd]

theorem execRoundTrip_poll {f : Frame} {c : CardInfo} (hs : s.seq = .busy .poll .rtWaitTrail)
    (ha : s.transport.waitAnswer = .timedOut) (hd : decodeFrame s.rx = .ok f) (hc : parseCardInfo f = c) :
    execRoundTrip s = .next (s.endAssembly.endWithReport (.poll (.ok (c, s.rx)))) := by
  rw [execRoundTrip_timedOut hs ha, complete_decoded hd, completeFrame, raw_of_decodeFrame hd, hc]

theorem execRoundTrip_readBlock {f : Frame} {r : Result Bytes ResponseError}
    (hs : s.seq = .busy .readBlock .rtWaitTrail) (ha : s.transport.waitAnswer = .timedOut)
    (hd : decodeFrame s.rx = .ok f) (hp : parseBlockData f = r) :
    execRoundTrip s = .next (s.endAssembly.endWithReport (.readBlock (readBlockResult r))) := by
  rw [execRoundTrip_timedOut hs ha, complete_decoded hd, completeFrame, hp]

/-- R222, R223: an operation that ends with the end of assembly. -/
theorem endAssembly_endWithReport (ha : s.transport.waitAnswer = .timedOut) (r : Report) :
    s.endAssembly.endWithReport r = { s with
      seq := .ready, rx := []
      transport := { s.transport with waits := s.transport.waits.tail, draws := s.transport.draws + 1 }
      trace := s.trace ++ [.wait .trail s.cfg.tTrail .timedOut] ++ [.report r] } := by
  rw [endAssembly_timedOut ha]
  rfl

end Responses

/-- Settles O34: DECODE fails and its failure is taken, or its frame is reported. -/
theorem pollReportsTheResponse : Obligations.PollReportsTheResponse := by
  rintro s s1 hs ha rfl
  have reports {r : Report} (h : execRoundTrip s = .next (s.endAssembly.endWithReport r)) :=
    h.trans (congrArg Host.Outcome.next (endAssembly_endWithReport ha r))
  exact ⟨fun fe hd => reports (execRoundTrip_frameFailure hs ha hd),
    fun f hd => reports (execRoundTrip_poll hs ha hd rfl)⟩

/-- Settles O35: DECODE fails and its failure is taken, or what PARSE_BLOCK_DATA makes of its frame is reported. -/
theorem readBlockReportsTheResponse : Obligations.ReadBlockReportsTheResponse := by
  rintro s s1 hs ha rfl
  have reports {r : Report} (h : execRoundTrip s = .next (s.endAssembly.endWithReport r)) :=
    h.trans (congrArg Host.Outcome.next (endAssembly_endWithReport ha r))
  exact ⟨fun fe hd => reports (execRoundTrip_frameFailure hs ha hd),
    fun f re hd hp => reports (execRoundTrip_readBlock hs ha hd hp),
    fun f d hd hp => reports (execRoundTrip_readBlock hs ha hd hp)⟩

/-! ## The command forms (R82 to R85; log 3) -/

theorem exec_sent {i : Instr} {frame : Bytes} (hc : i.channel = some .sent) (he : encode i = some frame) (s : State) :
    exec i s = sendFrame frame s := by
  cases i with
  | cmdPoll =>
    cases encode_cmdPoll.symm.trans he
    rfl
  | cmdReadBlock b =>
    cases (encode_cmdReadBlock b).symm.trans he
    rfl
  | cmdLoadKey kt kn k =>
    cases (encode_cmdLoadKey kt kn k).symm.trans he
    rfl
  | cmdAuthenticate kt kn sc =>
    cases (encode_cmdAuthenticate kt kn sc).symm.trans he
    rfl
  | _ => cases hc

theorem sendFrame_notDue {s : State} {b : Bytes} (h : (∀ op, s.seq ≠ .busy op .rtWrite) ∨ s.tx ≠ some b) :
    sendFrame b s = .refused .commandNotDue := by
  unfold sendFrame
  split
  next op hs =>
    rcases h with hseq | htx
    · exact absurd hs (hseq op)
    · exact if_neg htx
  all_goals rfl

/-- Settles O38: each form sends its encoding, which is ROUND_TRIP's write where TX holds it in `RtWrite`. -/
theorem commandFramesAreSentFromTx : Obligations.CommandFramesAreSentFromTx := by
  intro i frame s hc he
  rw [exec_sent hc he]
  refine ⟨fun op hs htx ha => ?_, sendFrame_notDue⟩
  rw [sendFrame_due hs htx, execRoundTrip_written hs htx ha, doWrite_answered frame ha]
  rfl

/-! ## The response forms (R80) at the end of POLL and of READ BLOCK -/

theorem parseCardInfo_responseFrame_success (l p i : Byte) (tp : Bytes) :
    parseCardInfo (responseFrame l p i 0xFF 0x01 tp) =
      { type := tlvFind 0xDF 0x16 tp, uid := tlvFind 0xDF 0x0D tp, sak := tlvFind 0xDF 0x6B tp,
        atq := tlvFind 0xDF 0x15 tp } := by
  rw [parseCardInfo_of_success rfl, responseFrame_eq_openFrame, templatePayload_openFrame]

/-- R80: the marker of RSP_MALFORMED is none of the two assigned pairs. -/
theorem classify_ne_success_of_rspMalformed {l p i m0 m1 : Byte} {tp : Bytes}
    (hw : (Instr.rspMalformed l p i m0 m1 tp).wellFormed = true) :
    classify (responseFrame l p i m0 m1 tp) ≠ .success := by
  have hm : templateOf m0 m1 = .malformed := of_decide_eq_true hw
  rw [responseFrame_eq_openFrame, classify_openFrame, hm]
  exact nofun

/-- Settles O39: each form is POLL's end, and the card's fields turn on the marker. -/
theorem responseFormsEndPoll : Obligations.ResponseFormsEndPoll := by
  rintro l p i m0 m1 tp s s1 hs ha rfl
  have reports {j : Instr} {f : Frame} {c : CardInfo} (hi : exec j s = execRoundTrip s)
      (hd : decodeFrame s.rx = .ok f) (hc : parseCardInfo f = c) :=
    (hi.trans (execRoundTrip_poll hs ha hd hc)).trans (congrArg Host.Outcome.next (endAssembly_endWithReport ha _))
  refine ⟨fun hrx => ?_, fun hrx => ?_, fun hw hrx => ?_⟩
  · exact reports (exec_received hs ha rfl rfl hrx) (decodeFrame_rx hrx) (parseCardInfo_responseFrame_success l p i tp)
  · exact reports (exec_received hs ha rfl rfl hrx) (decodeFrame_rx hrx) (parseCardInfo_of_ne_success nofun)
  · exact reports (exec_received hs ha hw rfl hrx) (decodeFrame_rx hrx)
      (parseCardInfo_of_ne_success (classify_ne_success_of_rspMalformed hw))

/-- Settles O40: each form is READ BLOCK's end, and what it reports turns on the marker and the DF78 value. -/
theorem responseFormsEndReadBlock : Obligations.ResponseFormsEndReadBlock := by
  rintro l p i m0 m1 tp s s1 hs ha rfl reports
  have hreports {j : Instr} {f : Frame} {r : Result Bytes ResponseError} (hi : exec j s = execRoundTrip s)
      (hd : decodeFrame s.rx = .ok f) (hp : parseBlockData f = r) : exec j s = reports (readBlockResult r) :=
    (hi.trans (execRoundTrip_readBlock hs ha hd hp)).trans
      (congrArg Host.Outcome.next (endAssembly_endWithReport ha _))
  refine ⟨fun hrx => ?_, fun hrx => ?_, fun hw hrx => ?_⟩
  · have hi := exec_received hs ha rfl rfl hrx
    have hfound : findWrapper (responseFrame l p i 0xFF 0x01 tp) = tlvFind 0xDF 0x78 tp :=
      findWrapper_openFrame l p i 0xFF 0x01 tp
    have htest {v : Bytes} {r : Result Bytes ResponseError} (hv : tlvFind 0xDF 0x78 tp = some v)
        (h : blockValueTest v = r) : exec (.rspSuccess l p i tp) s = reports (readBlockResult r) :=
      hreports hi (decodeFrame_rx hrx) ((parseBlockData_of_found rfl (hfound.trans hv)).trans h)
    refine ⟨fun hnone => hreports hi (decodeFrame_rx hrx) (parseBlockData_of_absent rfl (hfound.trans hnone)),
      fun v hv hecho => htest hv (blockValueTest_of_no_echo hecho),
      fun rest hv hshort => htest hv (blockValueTest_echo_short hshort),
      fun rest hv hlong => htest (r := .ok (rest.take 16)) hv ?_⟩
    rw [blockValueTest_echo, if_neg (Nat.not_lt.2 hlong)]
  · exact hreports (exec_received hs ha rfl rfl hrx) (decodeFrame_rx hrx) (parseBlockData_of_ne_success nofun)
  · exact hreports (exec_received hs ha hw rfl hrx) (decodeFrame_rx hrx)
      (parseBlockData_of_ne_success (classify_ne_success_of_rspMalformed hw))

end Sys2Proof.Machine
end

section
/-! Exceptions (60_exceptions.md): the block waits with its state kept (R265), never faults, and is refused in R253's
two ways only. -/

namespace Sys2Proof.Machine

/-! ## Waiting (R257, R265) -/

theorem execRoundTrip_ready {s : State} (hs : s.seq = .ready) : execRoundTrip s = .next s := by
  simp only [execRoundTrip, hs]

/-- Settles O3: the step finds nothing to take, and ROUND_TRIP finds no round trip in progress. -/
theorem idleBlockKeepsItsState : Obligations.IdleBlockKeepsItsState :=
  fun _ hs hq hu hr => ⟨step_idle hr hu hs hq, execRoundTrip_ready hs⟩

/-! ## The invariant gives every read of R220 its value (U3) -/

/-- R24: where TX fits the round trip, it is written. -/
theorem exists_tx_of_fits {op : Op} {x : Option Session} {tx : Option Bytes} (h : txFits op x tx = true) :
    ∃ b, tx = some b := by
  cases tx with
  | none => cases h
  | some b => exact ⟨b, rfl⟩

/-- R25, R221: a round trip whose session fits has an initial wait. -/
theorem exists_tripWait_of_fits {op : Op} {x : Option Session} (h : sessionFits op x = true) :
    ∃ i, tripWait op x = some i := by
  cases op with
  | poll => exact ⟨.poll, rfl⟩
  | readBlock => exact ⟨.readBlock, rfl⟩
  | authenticate =>
    obtain ⟨ss, rfl, hl | ha⟩ := exists_inRoundTrip_of_fits h
    · exact ⟨.loadKey, by simp [tripWait, hl]⟩
    · exact ⟨.authenticate, by simp [tripWait, ha]⟩

/-! ## What a step from an invariant state can answer (R250, R253) -/

/-- An answer that is no fault, and a refusal only with one of R253's two causes. -/
inductive SafeAnswer (s : State) : Answer → Prop where
  | next (t : State) : SafeAnswer s (.next t)
  /-- R111: ENCODE was called with too much data. -/
  | tooLong (p i : Byte) (d : Bytes) (us : List UnitCall) (hu : s.units = .encode p i d :: us) (hd : 253 < d.length) :
      SafeAnswer s (.refused .encodeTooLong)
  /-- R227: a chunk exceeds a finite RX_CAPACITY. -/
  | overflow (cap : Nat) (hc : s.cfg.rxCapacity = some cap) (hl : cap < s.rx.length + s.transport.chunk.length) :
      SafeAnswer s (.refused .rxOverflow)

/-- R23: a completion of a round trip whose session fits does not fault. -/
theorem complete_safe {s u : State} {op : Op} (h : sessionFits op u.session = true)
    (r : Result Bytes TransportError) : SafeAnswer s (complete op r u) := by
  rcases complete_completes op r u with ⟨t, ht, -⟩ | ⟨rfl, hnone, -⟩
  · rw [ht]
    exact .next t
  · obtain ⟨ss, hss, hin⟩ := exists_inRoundTrip_of_fits h
    exact absurd hin (hnone ss hss)

theorem readPhase_safe (op : Op) (s : State) : SafeAnswer s (readPhase op s) := by
  by_cases hf : s.cfg.fits (s.rx.length + s.transport.chunk.length) = true
  · rw [readPhase_fits op hf]
    exact .next _
  · rw [readPhase_overflow op hf]
    simp only [fits_iff, not_forall, Nat.not_le] at hf
    obtain ⟨cap, hc, hl⟩ := hf
    exact .overflow cap hc hl

theorem execRoundTrip_safe {s : State} {op : Op} {ph : Phase} (hs : s.seq = .busy op ph) (hf : TripFits op s) :
    SafeAnswer s (execRoundTrip s) := by
  obtain ⟨hss, htx, hti⟩ := hf
  cases ph with
  | rtWrite =>
    obtain ⟨b, hb⟩ := exists_tx_of_fits htx
    cases ha : s.transport.writeAnswer with
    | ok =>
      rw [execRoundTrip_written hs hb ha]
      exact .next _
    | writeError =>
      rw [execRoundTrip_writeFailed hs hb ha]
      exact complete_safe (u := (s.doWrite b).clearRx) hss (.err .writeTimeout)
  | rtWaitInit =>
    obtain ⟨i, hi⟩ := exists_tripWait_of_fits hss
    cases ha : s.transport.waitAnswer with
    | ok =>
      rw [execRoundTrip_waited hs (hti.trans hi) ha]
      exact .next _
    | timedOut =>
      rw [execRoundTrip_waitFailed hs (hti.trans hi) ha]
      exact complete_safe (u := (s.doWait (.init i)).clearRx) hss (.err .readTimeout)
  | rtReadInit =>
    rw [execRoundTrip_reading (.inl hs)]
    exact readPhase_safe op s
  | rtWaitTrail =>
    cases ha : s.transport.waitAnswer with
    | ok =>
      rw [execRoundTrip_trailing hs ha]
      exact .next _
    | timedOut =>
      rw [execRoundTrip_timedOut hs ha]
      exact complete_safe (u := s.endAssembly) hss (.ok s.rx)
  | rtReadTrail =>
    rw [execRoundTrip_reading (.inr hs)]
    exact readPhase_safe op s

theorem step_safe {s : State} (hI : Invariant s) : SafeAnswer s (step s) := by
  cases takes s with
  | reset hr =>
    rw [step_reset hr]
    exact .next _
  | unit u us hr hu =>
    rw [step_unit hr hu]
    rcases exec_unit u with ⟨r, he⟩ | ⟨p, i, d, rfl, hd, he⟩
    · rw [he]
      exact .next _
    · rw [he]
      exact .tooLong p i d us hu hd
  | phase op ph hr hu hs =>
    obtain ⟨-, -, hf⟩ := (invariant_iff_of_busy hs).1 hI
    rw [step_busy hr hu hs]
    exact execRoundTrip_safe hs hf
  | request q qs hr hu hs hq =>
    obtain ⟨t, he, -⟩ := exec_request_ready (s := { s with requests := qs }) hs q
    rw [step_request hr hu hs hq, he]
    exact .next t
  | idle hr hu hs hq =>
    rw [step_idle hr hu hs hq]
    exact .next _

/-- Settles O48: the invariant gives TX, TINIT and SESSION the values that R220 reads, so only ENCODE's bound and
RX_CAPACITY can stop a step. -/
theorem invariantStatesStepSafely : Obligations.InvariantStatesStepSafely := by
  intro s hI
  have hsafe := step_safe hI
  refine ⟨fun r hr => ?_, fun r hr => ?_⟩
  · rw [hr] at hsafe
    cases hsafe
  · rw [hr] at hsafe
    cases hsafe with
    | tooLong p i d us hu hd => exact .inl ⟨rfl, p, i, d, us, hu, hd⟩
    | overflow cap hc hl => exact .inr ⟨rfl, cap, hc, hl⟩

end Sys2Proof.Machine
end

section
/-! Reset (70_reset_and_hazards.md): the values it leaves, from which the block waits, and what it abandons. -/

namespace Sys2Proof.Machine

/-- Settles O1: nothing is presented after reset, so the step finds nothing to take; whatever ends a round trip of
AUTHENTICATE reads SESSION.state first. -/
theorem resetLeavesTheBlockReady : Obligations.ResetLeavesTheBlockReady := by
  refine ⟨rfl, rfl, rfl, rfl, rfl, step_idle rfl rfl rfl rfl, fun s hnone hends => ?_⟩
  obtain ⟨-, -, hreads⟩ := unwrittenElementsFault .authenticate s
  obtain ⟨habsent, -⟩ := hreads hends
  exact habsent hnone

/-- Settles O2: the reset input is taken before all else, and `abandon` writes the reset values. -/
theorem resetAbandonsTheOperation : Obligations.ResetAbandonsTheOperation :=
  fun _ hr => step_reset hr

/-- Settles O46: SEQ is Ready, RX and SESSION are empty, and no request has been accepted. -/
theorem resetMeetsTheInvariant : Obligations.ResetMeetsTheInvariant :=
  have hready : State.reset.seq = .ready := rfl
  ⟨(invariant_iff_of_ready hready).2 ⟨rfl, rfl⟩, (reportLedger_iff _).2 rfl, writeLedger_of_ready hready⟩

end Sys2Proof.Machine
end
